-- ==== Sys2Proof/Word.lean ====
section
/-! DEFINITION. The widths of SWPD's values: every value is an unsigned bit vector (00_scope.md R7, R8). -/

namespace Sys2Proof

/-- A timestamp, an elapsed time, a configuration register or a bus data word: 32 bits (00_scope.md R6: `TW`, `DW`). -/
abbrev Word := BitVec 32

/-- A frame of 40 bits, the first bit sent at bit 39 (00_scope.md R6: `NBITS`; 30_encoding.md R88). -/
abbrev Frame := BitVec 40

/-- A register slot, `bus_addr[5:2]` (20_memory.md R60). -/
abbrev Slot := BitVec 4

/-- A host operation word `{W, A, D}` of 39 bits (30_encoding.md R80). -/
abbrev HostOp := BitVec 39

/-- One byte, of a frame or of a stored host operation word. -/
abbrev Byte := BitVec 8

end Sys2Proof
end

