-- ==== Sys2Proof/Syntax.lean ====
section
/-! DEFINITION. The host operations of SWPD, one constructor per operation of 30_encoding.md R90. -/

namespace Sys2Proof

/-- A host operation. A read has no operand but its slot, a write has the data word `D` whole (30_encoding.md R96),
also where the operation ignores it (42_register_access.md R206 to R212, R220). -/
inductive Instr where
  /-- Read CTRL, slot 0 (R191). -/
  | rdCtrl
  /-- Read STATUS, slot 1 (R192). -/
  | rdStatus
  /-- Read DATA, slot 2 (R193). -/
  | rdData
  /-- Read CHECK, slot 3 (R194). -/
  | rdCheck
  /-- Read ERR_INFO, slot 4 (R195). -/
  | rdErrInfo
  /-- Read ERR_DUR, slot 5 (R196). -/
  | rdErrDur
  /-- Read TIMEOUT, slot 6 (R197). -/
  | rdTimeout
  /-- Read START_LOW, slot 7 (R198). -/
  | rdStartLow
  /-- Read RELEASE, slot 8 (R199). -/
  | rdRelease
  /-- Read BIT0_MIN, slot 9 (R200). -/
  | rdBit0Min
  /-- Read BIT0_MAX, slot 10 (R201). -/
  | rdBit0Max
  /-- Read BIT1_MIN, slot 11 (R202). -/
  | rdBit1Min
  /-- Read BIT1_MAX, slot 12 (R203). -/
  | rdBit1Max
  /-- Read a reserved slot: 13, 14 or 15 (R204). -/
  | rdRsvd (slot : Slot)
  /-- Write CTRL with `D[0] = 1` (40_decoder.md R126). -/
  | start (d : Word)
  /-- Write CTRL with `D[1:0] = 0b10` (R206). -/
  | clear (d : Word)
  /-- Write CTRL with `D[1:0] = 0b00` (R207). -/
  | ctrlNop (d : Word)
  /-- Write STATUS, slot 1 (R208). -/
  | wrStatus (d : Word)
  /-- Write DATA, slot 2 (R209). -/
  | wrData (d : Word)
  /-- Write CHECK, slot 3 (R210). -/
  | wrCheck (d : Word)
  /-- Write ERR_INFO, slot 4 (R211). -/
  | wrErrInfo (d : Word)
  /-- Write ERR_DUR, slot 5 (R212). -/
  | wrErrDur (d : Word)
  /-- Write TIMEOUT, slot 6 (R213). -/
  | wrTimeout (d : Word)
  /-- Write START_LOW, slot 7 (R214). -/
  | wrStartLow (d : Word)
  /-- Write RELEASE, slot 8 (R215). -/
  | wrRelease (d : Word)
  /-- Write BIT0_MIN, slot 9 (R216). -/
  | wrBit0Min (d : Word)
  /-- Write BIT0_MAX, slot 10 (R217). -/
  | wrBit0Max (d : Word)
  /-- Write BIT1_MIN, slot 11 (R218). -/
  | wrBit1Min (d : Word)
  /-- Write BIT1_MAX, slot 12 (R219). -/
  | wrBit1Max (d : Word)
  /-- Write a reserved slot: 13, 14 or 15 (R220). -/
  | wrRsvd (slot : Slot) (d : Word)
deriving DecidableEq, Repr

end Sys2Proof
end

