-- ==== Sys2Proof/WellFormed.lean ====
section
/-! DEFINITION. Which terms of Instr stand for a host operation: the ones some 39-bit word decodes to. -/

namespace Sys2Proof

/-- A reserved slot is 13, 14 or 15 (20_memory.md R69). -/
def reservedSlot (slot : Slot) : Bool := decide (13 ≤ slot.toNat)

/-- The operand checks of 30_encoding.md R81 and R90: the command bits of CTRL, and the reserved slots. -/
def wellFormed : Instr → Bool
  | .start d => d.getLsbD 0
  | .clear d => !d.getLsbD 0 && d.getLsbD 1
  | .ctrlNop d => !d.getLsbD 0 && !d.getLsbD 1
  | .rdRsvd slot => reservedSlot slot
  | .wrRsvd slot _ => reservedSlot slot
  | .rdCtrl | .rdStatus | .rdData | .rdCheck | .rdErrInfo | .rdErrDur | .rdTimeout | .rdStartLow | .rdRelease
  | .rdBit0Min | .rdBit0Max | .rdBit1Min | .rdBit1Max => true
  | .wrStatus _ | .wrData _ | .wrCheck _ | .wrErrInfo _ | .wrErrDur _ | .wrTimeout _ | .wrStartLow _ | .wrRelease _
  | .wrBit0Min _ | .wrBit0Max _ | .wrBit1Min _ | .wrBit1Max _ => true

end Sys2Proof
end

