-- ==== Sys2Proof/Decode.lean ====
section
/-! DEFINITION. The 39-bit host operation word: its fields, the decoder, the encoder, and the opcode map as mask and
match rows (30_encoding.md R80, R81, R90, R96). -/

namespace Sys2Proof

/-- `W`, bit 38 of a host operation word (30_encoding.md R80). -/
def opWrite (h : HostOp) : Bool := h.getLsbD 38

/-- `S = A[5:2]`, bits 37:34 (30_encoding.md R80). -/
def opSlot (h : HostOp) : Slot := h.extractLsb' 34 4

/-- `D`, bits 31:0 (30_encoding.md R80). -/
def opData (h : HostOp) : Word := h.extractLsb' 0 32

/-- The command a write to CTRL carries (30_encoding.md R81). -/
def decodeCtrl (d : Word) : Instr :=
  if d.getLsbD 0 then .start d else if d.getLsbD 1 then .clear d else .ctrlNop d

/-- The reads, by slot (30_encoding.md R90, the rows with W = 0). -/
def decodeRead (slot : Slot) : Instr :=
  match slot.toNat with
  | 0 => .rdCtrl
  | 1 => .rdStatus
  | 2 => .rdData
  | 3 => .rdCheck
  | 4 => .rdErrInfo
  | 5 => .rdErrDur
  | 6 => .rdTimeout
  | 7 => .rdStartLow
  | 8 => .rdRelease
  | 9 => .rdBit0Min
  | 10 => .rdBit0Max
  | 11 => .rdBit1Min
  | 12 => .rdBit1Max
  | _ => .rdRsvd slot

/-- The writes, by slot (30_encoding.md R90, the rows with W = 1). -/
def decodeWrite (slot : Slot) (d : Word) : Instr :=
  match slot.toNat with
  | 0 => decodeCtrl d
  | 1 => .wrStatus d
  | 2 => .wrData d
  | 3 => .wrCheck d
  | 4 => .wrErrInfo d
  | 5 => .wrErrDur d
  | 6 => .wrTimeout d
  | 7 => .wrStartLow d
  | 8 => .wrRelease d
  | 9 => .wrBit0Min d
  | 10 => .wrBit0Max d
  | 11 => .wrBit1Min d
  | 12 => .wrBit1Max d
  | _ => .wrRsvd slot d

/-- The operation a word stands for. Total, since no word is illegal (30_encoding.md R92). -/
def decode (h : HostOp) : Instr :=
  if opWrite h then decodeWrite (opSlot h) (opData h) else decodeRead (opSlot h)

/-- Why a run of bytes holds no host operation word. Both are safe: such bytes can reach no port of SWPD. -/
inductive WordRefusal where
  /-- Raised by `decodeBytes` on a run of bytes that is not five bytes long. Safe. -/
  | wrongLength
  /-- Raised by `decodeBytes` when bit 39, which the 39-bit word does not have, is set. Safe. -/
  | beyondBit38
deriving DecidableEq, Repr

/-- The host operation word of five bytes, least significant first (log entry 5). -/
def joinBytes (b0 b1 b2 b3 b4 : Byte) : HostOp := (b4 ++ b3 ++ b2 ++ b1 ++ b0).setWidth 39

/-- The operation stored in a run of bytes, or why there is none. DESIGN CHOICE, safe: log entry 5. -/
def decodeBytes : List Byte → Except WordRefusal Instr
  | [b0, b1, b2, b3, b4] => if b4.getLsbD 7 then .error .beyondBit38 else .ok (decode (joinBytes b0 b1 b2 b3 b4))
  | _ => .error .wrongLength

/-- The first five bytes of a number, least significant first. -/
def tableBytes (w : Nat) : List Byte :=
  [BitVec.ofNat 8 w, BitVec.ofNat 8 (w >>> 8), BitVec.ofNat 8 (w >>> 16), BitVec.ofNat 8 (w >>> 24), BitVec.ofNat 8 (w >>> 32)]

/-- The host operation read from the low `nbits` bits of `w`, numbered as spec/opcode_table.json numbers them. -/
def decodeTableWord (nbits w : Nat) : Option Instr :=
  if w % 2 ^ nbits < 2 ^ 40 then (decodeBytes (tableBytes (w % 2 ^ nbits))).toOption else none

/-- `true` for the operations with W = 1 (30_encoding.md R90). -/
def Instr.isWrite : Instr → Bool
  | .rdCtrl | .rdStatus | .rdData | .rdCheck | .rdErrInfo | .rdErrDur | .rdTimeout | .rdStartLow | .rdRelease
  | .rdBit0Min | .rdBit0Max | .rdBit1Min | .rdBit1Max | .rdRsvd _ => false
  | .start _ | .clear _ | .ctrlNop _ => true
  | .wrStatus _ | .wrData _ | .wrCheck _ | .wrErrInfo _ | .wrErrDur _ | .wrTimeout _ | .wrStartLow _ | .wrRelease _
  | .wrBit0Min _ | .wrBit0Max _ | .wrBit1Min _ | .wrBit1Max _ | .wrRsvd _ _ => true

/-- The slot an operation accesses (30_encoding.md R90). -/
def Instr.slot : Instr → Slot
  | .rdCtrl | .start _ | .clear _ | .ctrlNop _ => 0
  | .rdStatus | .wrStatus _ => 1
  | .rdData | .wrData _ => 2
  | .rdCheck | .wrCheck _ => 3
  | .rdErrInfo | .wrErrInfo _ => 4
  | .rdErrDur | .wrErrDur _ => 5
  | .rdTimeout | .wrTimeout _ => 6
  | .rdStartLow | .wrStartLow _ => 7
  | .rdRelease | .wrRelease _ => 8
  | .rdBit0Min | .wrBit0Min _ => 9
  | .rdBit0Max | .wrBit0Max _ => 10
  | .rdBit1Min | .wrBit1Min _ => 11
  | .rdBit1Max | .wrBit1Max _ => 12
  | .rdRsvd slot | .wrRsvd slot _ => slot

/-- The data word of an operation. A read's `D` is ignored (30_encoding.md R80), and 0 stands for it here: DESIGN CHOICE,
safe: log entry 14. -/
def Instr.data : Instr → Word
  | .rdCtrl | .rdStatus | .rdData | .rdCheck | .rdErrInfo | .rdErrDur | .rdTimeout | .rdStartLow | .rdRelease
  | .rdBit0Min | .rdBit0Max | .rdBit1Min | .rdBit1Max | .rdRsvd _ => 0
  | .start d | .clear d | .ctrlNop d => d
  | .wrStatus d | .wrData d | .wrCheck d | .wrErrInfo d | .wrErrDur d | .wrTimeout d | .wrStartLow d | .wrRelease d
  | .wrBit0Min d | .wrBit0Max d | .wrBit1Min d | .wrBit1Max d | .wrRsvd _ d => d

/-- `{W, A, D}` with `A = {S, 0b00}` (30_encoding.md R80). -/
def hostOp (w : Bool) (slot : Slot) (d : Word) : HostOp := BitVec.ofBool w ++ slot ++ 0#2 ++ d

/-- The word of an operation (30_encoding.md R80), with 0 in the two low address bits and in the data of a read, both
ignored; a write's data stands whole. DESIGN CHOICE, safe: log entry 14. -/
def encode (i : Instr) : HostOp := hostOp i.isWrite i.slot i.data

/-- The operation's mnemonic in spec/opcode_table.json. -/
def Instr.mnemonic : Instr → String
  | .rdCtrl => "RD_CTRL"
  | .rdStatus => "RD_STATUS"
  | .rdData => "RD_DATA"
  | .rdCheck => "RD_CHECK"
  | .rdErrInfo => "RD_ERR_INFO"
  | .rdErrDur => "RD_ERR_DUR"
  | .rdTimeout => "RD_TIMEOUT"
  | .rdStartLow => "RD_START_LOW"
  | .rdRelease => "RD_RELEASE"
  | .rdBit0Min => "RD_BIT0_MIN"
  | .rdBit0Max => "RD_BIT0_MAX"
  | .rdBit1Min => "RD_BIT1_MIN"
  | .rdBit1Max => "RD_BIT1_MAX"
  | .rdRsvd _ => "RD_RSVD"
  | .start _ => "START"
  | .clear _ => "CLEAR"
  | .ctrlNop _ => "CTRL_NOP"
  | .wrStatus _ => "WR_STATUS"
  | .wrData _ => "WR_DATA"
  | .wrCheck _ => "WR_CHECK"
  | .wrErrInfo _ => "WR_ERR_INFO"
  | .wrErrDur _ => "WR_ERR_DUR"
  | .wrTimeout _ => "WR_TIMEOUT"
  | .wrStartLow _ => "WR_START_LOW"
  | .wrRelease _ => "WR_RELEASE"
  | .wrBit0Min _ => "WR_BIT0_MIN"
  | .wrBit0Max _ => "WR_BIT0_MAX"
  | .wrBit1Min _ => "WR_BIT1_MIN"
  | .wrBit1Max _ => "WR_BIT1_MAX"
  | .wrRsvd _ _ => "WR_RSVD"

/-- One row of spec/opcode_table.json. -/
structure OpcodeRow where
  /-- The row's mnemonic. -/
  mnemonic : String
  /-- The fixed bits. -/
  pattern : HostOp
  /-- Which bits are fixed. -/
  mask : HostOp
deriving DecidableEq, Repr

/-- A word matches a row when it agrees with the row's pattern under its mask. -/
def OpcodeRow.covers (r : OpcodeRow) (h : HostOp) : Bool := h &&& r.mask == r.pattern

/-- The rows of spec/opcode_table.json with W = 0. -/
def readRows : List OpcodeRow :=
  [⟨"RD_CTRL", 0x0000000000, 0x7C00000000⟩,
   ⟨"RD_STATUS", 0x0400000000, 0x7C00000000⟩,
   ⟨"RD_DATA", 0x0800000000, 0x7C00000000⟩,
   ⟨"RD_CHECK", 0x0C00000000, 0x7C00000000⟩,
   ⟨"RD_ERR_INFO", 0x1000000000, 0x7C00000000⟩,
   ⟨"RD_ERR_DUR", 0x1400000000, 0x7C00000000⟩,
   ⟨"RD_TIMEOUT", 0x1800000000, 0x7C00000000⟩,
   ⟨"RD_START_LOW", 0x1C00000000, 0x7C00000000⟩,
   ⟨"RD_RELEASE", 0x2000000000, 0x7C00000000⟩,
   ⟨"RD_BIT0_MIN", 0x2400000000, 0x7C00000000⟩,
   ⟨"RD_BIT0_MAX", 0x2800000000, 0x7C00000000⟩,
   ⟨"RD_BIT1_MIN", 0x2C00000000, 0x7C00000000⟩,
   ⟨"RD_BIT1_MAX", 0x3000000000, 0x7C00000000⟩,
   ⟨"RD_RSVD", 0x3400000000, 0x7C00000000⟩,
   ⟨"RD_RSVD", 0x3800000000, 0x7800000000⟩]

/-- The rows of spec/opcode_table.json with W = 1. -/
def writeRows : List OpcodeRow :=
  [⟨"START", 0x4000000001, 0x7C00000001⟩,
   ⟨"CLEAR", 0x4000000002, 0x7C00000003⟩,
   ⟨"CTRL_NOP", 0x4000000000, 0x7C00000003⟩,
   ⟨"WR_STATUS", 0x4400000000, 0x7C00000000⟩,
   ⟨"WR_DATA", 0x4800000000, 0x7C00000000⟩,
   ⟨"WR_CHECK", 0x4C00000000, 0x7C00000000⟩,
   ⟨"WR_ERR_INFO", 0x5000000000, 0x7C00000000⟩,
   ⟨"WR_ERR_DUR", 0x5400000000, 0x7C00000000⟩,
   ⟨"WR_TIMEOUT", 0x5800000000, 0x7C00000000⟩,
   ⟨"WR_START_LOW", 0x5C00000000, 0x7C00000000⟩,
   ⟨"WR_RELEASE", 0x6000000000, 0x7C00000000⟩,
   ⟨"WR_BIT0_MIN", 0x6400000000, 0x7C00000000⟩,
   ⟨"WR_BIT0_MAX", 0x6800000000, 0x7C00000000⟩,
   ⟨"WR_BIT1_MIN", 0x6C00000000, 0x7C00000000⟩,
   ⟨"WR_BIT1_MAX", 0x7000000000, 0x7C00000000⟩,
   ⟨"WR_RSVD", 0x7400000000, 0x7C00000000⟩,
   ⟨"WR_RSVD", 0x7800000000, 0x7800000000⟩]

/-- The whole opcode map as mask and match rows; the decoder above does not read it, the claims compare the two. -/
def opcodeTable : List OpcodeRow := readRows ++ writeRows

end Sys2Proof
end

