-- ==== Sys2Proof/Config.lean ====
section
/-! DEFINITION. What an implementation or the environment fixes: the parameters of 00_scope.md R6, the inputs of one
clock edge, and the free values (opaque, so that nothing can be proved of them). -/

namespace Sys2Proof

/-- The input ports as they stand at one rising edge of `clk` (10_state.md R21). One host operation per edge is all
the ports can carry (60_exceptions.md R256). -/
structure EdgeInput where
  /-- Synchronous reset, active high. -/
  rst : Bool
  /-- The timestamp, read as `NOW`. -/
  nowUs : Word
  /-- The level of the line, `true` = high, read as `LINE`; already synchronous to `clk` (70_reset_and_hazards.md R283). -/
  lineI : Bool
  /-- The byte address of the register accessed. -/
  busAddr : BitVec 6
  /-- `true` = the host writes `busWdata`; `false` = the host reads, or is idle, which is the same. -/
  busWe : Bool
  /-- The write data. -/
  busWdata : Word
deriving DecidableEq, Repr, Inhabited

namespace Config

/-- The inputs at the edge with a given number when the schedule in the state has ended: free values
(10_state.md R40; 93_implementation_defined.md U13). DESIGN CHOICE, safe: log entry 1. -/
opaque freeInput : Nat → EdgeInput

/-- `F_CLK` in Hz, OPEN in 00_scope.md R6. No rule reads it: the model steps by edges. Log entry 11. -/
opaque fClkHz : Nat

/-- `MIN_START_INTERVAL` in µs, OPEN in 00_scope.md R6; only a host duty reads it (70_reset_and_hazards.md R284).
Log entry 11; how the interval is measured: log entry 18. -/
opaque minStartInterval : Nat

/-- `NBITS`: bits per frame (00_scope.md R6). -/
def nbits : Nat := 40

/-- `NBYTES`: bytes per frame (00_scope.md R6). -/
def nbytes : Nat := 5

/-- Reset value of `cfg_timeout` (10_state.md R33, R39). -/
def timeoutReset : Word := 1000

/-- Reset value of `cfg_start_low` (10_state.md R33, R39). -/
def startLowReset : Word := 18000

/-- Reset value of `cfg_release` (10_state.md R33, R39). -/
def releaseReset : Word := 30

/-- Reset value of `cfg_bit0_min` (10_state.md R33, R39). -/
def bit0MinReset : Word := 40

/-- Reset value of `cfg_bit0_max` (10_state.md R33, R39). -/
def bit0MaxReset : Word := 50

/-- Reset value of `cfg_bit1_min` (10_state.md R33, R39). -/
def bit1MinReset : Word := 65

/-- Reset value of `cfg_bit1_max` (10_state.md R33, R39). -/
def bit1MaxReset : Word := 75

end Config

end Sys2Proof
end

