-- ==== Sys2Proof/Machine/State.lean ====
section
/-! DEFINITION. The state of SWPD as plain data, its named field updates, the reasons a step can stop, and the state
after reset (10_state.md R25 to R33, R39). -/

namespace Sys2Proof.Machine

/-- The eight states of the timing state machine (10_state.md R25; 30_encoding.md R82). -/
inductive FsmState where
  /-- Between decode cycles (code 0). -/
  | idle
  /-- Host-Start, the line driven low (code 1). -/
  | startLow
  /-- Host-Start, the line released and not yet watched (code 2). -/
  | startRel
  /-- Handshake, waiting for low (code 3). -/
  | hsWaitLow
  /-- Handshake, waiting for high (code 4). -/
  | hsWaitHigh
  /-- Handshake, waiting for the low that starts the data (code 5). -/
  | hsWaitData
  /-- BitCapture, waiting for the rise that starts a bit (code 6). -/
  | bitWaitHigh
  /-- BitCapture, measuring the high duration (code 7). -/
  | bitMeasure
deriving DecidableEq, Repr

/-- The result codes that exist (10_state.md R31; 30_encoding.md R83). Codes 6 to 15 are reserved and never produced:
log entry 6. -/
inductive ResultCode where
  /-- No decode cycle has ended since reset or the last START (code 0). -/
  | none
  /-- 40 bits captured and the integrity byte matches (code 1). -/
  | ok
  /-- 40 bits captured and the integrity byte does not match (code 2). -/
  | checksumError
  /-- A handshake wait timed out (code 3). -/
  | noResponse
  /-- A bit wait or a high measurement timed out (code 4). -/
  | timeout
  /-- A high duration fell in no plausible range (code 5). -/
  | invalidPulse
deriving DecidableEq, Repr

/-- The state of the machine. The first eighteen fields are the registers of 10_state.md R39. The last three are the
model's own: the value of an output port, and the inputs, which the spec calls free (10_state.md R40). -/
structure State where
  /-- `state`, the sequencer (R25). -/
  state : FsmState
  /-- `t_mark`, `NOW` at the edge on which the current phase began (R26). -/
  tMark : Word
  /-- `shift`, the assembly register, never visible to the host (R28). -/
  shift : Frame
  /-- `frame`, the committed frame, byte 0 in bits 39:32 (R27). -/
  frame : Frame
  /-- `frame_valid`, whether a committed frame is present (R27). -/
  frameValid : Bool
  /-- `bit_cnt`, the number of data bits captured (R29). -/
  bitCnt : BitVec 6
  /-- `done`, the sticky completion flag (R30). -/
  done : Bool
  /-- `result`, the outcome of the last decode cycle (R31). -/
  result : ResultCode
  /-- `err_bit`, the bitIndex of an error (R32). -/
  errBit : BitVec 6
  /-- `err_state`, the state in which the error was detected (R32). -/
  errState : FsmState
  /-- `err_dur`, the high duration of an InvalidPulse (R32). -/
  errDur : Word
  /-- `cfg_timeout` (R33). -/
  cfgTimeout : Word
  /-- `cfg_start_low` (R33). -/
  cfgStartLow : Word
  /-- `cfg_release` (R33). -/
  cfgRelease : Word
  /-- `cfg_bit0_min` (R33). -/
  cfgBit0Min : Word
  /-- `cfg_bit0_max` (R33). -/
  cfgBit0Max : Word
  /-- `cfg_bit1_min` (R33). -/
  cfgBit1Min : Word
  /-- `cfg_bit1_max` (R33). -/
  cfgBit1Max : Word
  /-- The value of the port `bus_rdata` in the cycle that ended with the last edge (R21; 42_register_access.md R190).
  The model's own field, DESIGN CHOICE: log entry 2. -/
  busRdata : Word
  /-- The inputs of the coming edges, the next edge's first. The model's own field, DESIGN CHOICE: log entry 1. -/
  inputs : List EdgeInput
  /-- How many edges have passed; selects the free input once `inputs` is empty. The model's own field, DESIGN
  CHOICE: log entry 3. -/
  edge : Nat
deriving DecidableEq, Repr

/-- The reasons for which the machine stops with a fault: none exists. Every state rule is total, and no host
operation raises an error (40_decoder.md R124; 30_encoding.md R92; 60_exceptions.md R249). Safe: log entry 15. -/
inductive Fault where
deriving DecidableEq, Repr

/-- The reasons for which the model gives an instruction no meaning. -/
inductive Refusal where
  /-- Raised by `exec` alone, for an operation that has no meaning yet; no arm raises it now. Safe. -/
  | notModelled (mnemonic : String)
deriving DecidableEq, Repr

/-- What one operation, or one step, answers. -/
abbrev Answer := Host.Outcome State Fault Refusal

/-- Write `state`. -/
def State.withState (s : State) (v : FsmState) : State := { s with state := v }

/-- Write `t_mark`. -/
def State.withMark (s : State) (v : Word) : State := { s with tMark := v }

/-- Write the assembly register and the bit counter. -/
def State.withBits (s : State) (f : Frame) (n : BitVec 6) : State := { s with shift := f, bitCnt := n }

/-- Write the committed frame and its flag. -/
def State.withFrame (s : State) (f : Frame) (v : Bool) : State := { s with frame := f, frameValid := v }

/-- Write `result` and `done`. -/
def State.withOutcome (s : State) (r : ResultCode) (v : Bool) : State := { s with result := r, done := v }

/-- Write the three error information registers. -/
def State.withError (s : State) (n : BitVec 6) (q : FsmState) (d : Word) : State := { s with errBit := n, errState := q, errDur := d }

/-- Write `done`. -/
def State.withDone (s : State) (v : Bool) : State := { s with done := v }

/-- Write `cfg_timeout`. -/
def State.withCfgTimeout (s : State) (v : Word) : State := { s with cfgTimeout := v }

/-- Write `cfg_start_low`. -/
def State.withCfgStartLow (s : State) (v : Word) : State := { s with cfgStartLow := v }

/-- Write `cfg_release`. -/
def State.withCfgRelease (s : State) (v : Word) : State := { s with cfgRelease := v }

/-- Write `cfg_bit0_min`. -/
def State.withCfgBit0Min (s : State) (v : Word) : State := { s with cfgBit0Min := v }

/-- Write `cfg_bit0_max`. -/
def State.withCfgBit0Max (s : State) (v : Word) : State := { s with cfgBit0Max := v }

/-- Write `cfg_bit1_min`. -/
def State.withCfgBit1Min (s : State) (v : Word) : State := { s with cfgBit1Min := v }

/-- Write `cfg_bit1_max`. -/
def State.withCfgBit1Max (s : State) (v : Word) : State := { s with cfgBit1Max := v }

/-- Keep the value that stood on `bus_rdata`. -/
def State.withBusRdata (s : State) (v : Word) : State := { s with busRdata := v }

/-- Write the schedule of inputs and the edge count. -/
def State.withEnv (s : State) (l : List EdgeInput) (k : Nat) : State := { s with inputs := l, edge := k }

/-- The machine right after the reset edge: the table of 10_state.md R39. The last three fields are the model's own;
the spec gives them no value (DESIGN CHOICE: log entries 1, 2 and 3). -/
def State.reset : State where
  state := .idle
  tMark := 0
  shift := 0
  frame := 0
  frameValid := false
  bitCnt := 0
  done := false
  result := .none
  errBit := 0
  errState := .idle
  errDur := 0
  cfgTimeout := Config.timeoutReset
  cfgStartLow := Config.startLowReset
  cfgRelease := Config.releaseReset
  cfgBit0Min := Config.bit0MinReset
  cfgBit0Max := Config.bit0MaxReset
  cfgBit1Min := Config.bit1MinReset
  cfgBit1Max := Config.bit1MaxReset
  busRdata := 0
  inputs := []
  edge := 0

end Sys2Proof.Machine
end

