-- ==== Sys2Proof/Machine/Inputs.lean ====
section
/-! DEFINITION. The inputs of the coming edge as the rules read them, and the host operation they carry. -/

namespace Sys2Proof.Machine

/-- The input ports at the coming edge: the schedule's head, or a free input once the schedule has ended (10_state.md
R40). Log entry 1. -/
def State.input (s : State) : EdgeInput :=
  match s.inputs with
  | e :: _ => e
  | [] => Config.freeInput s.edge

/-- `NOW` (00_scope.md R10). -/
def State.now (s : State) : Word := s.input.nowUs

/-- `LINE` (00_scope.md R10). -/
def State.line (s : State) : Bool := s.input.lineI

/-- The host operation word on the bus, `{bus_we, bus_addr, bus_wdata}` (30_encoding.md R80). -/
def hostWord (e : EdgeInput) : HostOp := BitVec.ofBool e.busWe ++ e.busAddr ++ e.busWdata

/-- The slot on the address bus, `bus_addr[5:2]` (20_memory.md R60). -/
def busSlot (e : EdgeInput) : Slot := e.busAddr.extractLsb' 2 4

/-- The host operation of the coming edge: what the step fetches (40_decoder.md R124). -/
def fetch (s : State) : Instr := decode (hostWord s.input)

/-- The input ports with a host operation word put on the bus and `rst` released. -/
def carrying (e : EdgeInput) (h : HostOp) : EdgeInput :=
  { e with rst := false, busAddr := h.extractLsb' 32 6, busWe := opWrite h, busWdata := opData h }

/-- The state whose coming edge carries a given host operation word; the timestamp, the line and the later inputs
are as they were. -/
def State.withHostWord (s : State) (h : HostOp) : State :=
  s.withEnv (carrying s.input h :: s.inputs.tail) s.edge

end Sys2Proof.Machine
end

