-- ==== Sys2Proof/Machine/Flags.lean ====
section
/-! DEFINITION. The state and result codes, the signals derived from the state, and the checksum: every flag of
STATUS (10_state.md R34 to R37; 30_encoding.md R82, R83; 41_validator.md R180). -/

namespace Sys2Proof.Machine

/-- The state codes of 30_encoding.md R82. -/
def FsmState.code : FsmState → BitVec 3
  | .idle => 0
  | .startLow => 1
  | .startRel => 2
  | .hsWaitLow => 3
  | .hsWaitHigh => 4
  | .hsWaitData => 5
  | .bitWaitHigh => 6
  | .bitMeasure => 7

/-- The result codes of 30_encoding.md R83. -/
def ResultCode.code : ResultCode → BitVec 4
  | .none => 0
  | .ok => 1
  | .checksumError => 2
  | .noResponse => 3
  | .timeout => 4
  | .invalidPulse => 5

/-- `BUSY` (10_state.md R34). -/
def busy (s : State) : Bool := s.state != .idle

/-- The output `line_oe` (10_state.md R35). -/
def lineOe (s : State) : Bool := s.state == .startLow

/-- The output `line_o`, constant 0 (10_state.md R35). -/
def lineO (_ : State) : Bool := false

/-- The output `done_o` (10_state.md R36). -/
def doneO (s : State) : Bool := s.done

/-- The output `busy_o` (10_state.md R36). -/
def busyO (s : State) : Bool := busy s

/-- Byte `j` of a frame, 0 the first sent: `frame[39 - 8j : 32 - 8j]` (30_encoding.md R88). -/
def frameByte (f : Frame) (j : Nat) : Byte := f.extractLsb' (32 - 8 * j) 8

/-- `Sum4`: the sum of bytes 0 to 3, modulo 256 (41_validator.md R180). -/
def sum4 (f : Frame) : Byte := frameByte f 0 + frameByte f 1 + frameByte f 2 + frameByte f 3

/-- `Validate`: the sum equals the integrity byte (41_validator.md R180). -/
def validate (f : Frame) : Bool := sum4 f == frameByte f 4

/-- `CHK_OK` (10_state.md R37). -/
def chkOk (s : State) : Bool := s.frameValid && validate s.frame

end Sys2Proof.Machine
end

