-- ==== Sys2Proof/Machine/Operands.lean ====
section
/-! DEFINITION. What each register slot reads as: the fields of 20_memory.md R62 to R69, in the read rules of
42_register_access.md R190 to R204. -/

namespace Sys2Proof.Machine

/-- CTRL holds no state and reads 0 (20_memory.md R62; 42_register_access.md R191). -/
def ctrlValue : Word := 0

/-- STATUS (20_memory.md R63; 42_register_access.md R192). -/
def statusValue (s : State) : Word :=
  (s.bitCnt ++ s.result.code ++ 0#1 ++ s.state.code ++ 0#3 ++ BitVec.ofBool (lineOe s) ++ BitVec.ofBool (chkOk s)
    ++ BitVec.ofBool s.frameValid ++ BitVec.ofBool s.done ++ BitVec.ofBool (busy s)).setWidth 32

/-- DATA: frame bytes 0 to 3 (20_memory.md R65; 42_register_access.md R193). -/
def dataValue (s : State) : Word := s.frame.extractLsb' 8 32

/-- CHECK: the computed sum above the integrity byte (20_memory.md R66; 42_register_access.md R194). -/
def checkValue (s : State) : Word := (sum4 s.frame ++ frameByte s.frame 4).setWidth 32

/-- ERR_INFO (20_memory.md R67; 42_register_access.md R195). -/
def errInfoValue (s : State) : Word := (s.errState.code ++ 0#2 ++ s.errBit).setWidth 32

/-- ERR_DUR (20_memory.md R68; 42_register_access.md R196). -/
def errDurValue (s : State) : Word := s.errDur

/-- A reserved slot reads 0 (20_memory.md R69; 42_register_access.md R204). -/
def reservedValue : Word := 0

/-- `ReadValue`: the combinational value of `bus_rdata` for each slot (42_register_access.md R190). -/
def readValue (slot : Slot) (s : State) : Word :=
  match slot.toNat with
  | 0 => ctrlValue
  | 1 => statusValue s
  | 2 => dataValue s
  | 3 => checkValue s
  | 4 => errInfoValue s
  | 5 => errDurValue s
  | 6 => s.cfgTimeout
  | 7 => s.cfgStartLow
  | 8 => s.cfgRelease
  | 9 => s.cfgBit0Min
  | 10 => s.cfgBit0Max
  | 11 => s.cfgBit1Min
  | 12 => s.cfgBit1Max
  | _ => reservedValue

end Sys2Proof.Machine
end

