-- ==== Sys2Proof/Machine/Ops.lean ====
section
/-! DEFINITION. The named operations every rule is written over: elapsed time, classification, assembly, Commit, the
error latch (the one place an error is taken), the START clearing and the acknowledgement that leave it, and the forms
of a bus access. -/

namespace Sys2Proof.Machine

/-- `Elapsed() = NOW -32 R.t_mark` (40_decoder.md R120). -/
def elapsed (s : State) : Word := s.now - s.tMark

/-- The three classes of a high duration (40_decoder.md R122). -/
inductive BitClass where
  /-- In the 0 range. -/
  | zero
  /-- In the 1 range and not in the 0 range. -/
  | one
  /-- In neither range. -/
  | malformed
deriving DecidableEq, Repr

/-- `Classify(d)`: both ranges inclusive, the 0 range first (40_decoder.md R122). -/
def classify (s : State) (d : Word) : BitClass :=
  if s.cfgBit0Min ≤ d ∧ d ≤ s.cfgBit0Max then .zero
  else if s.cfgBit1Min ≤ d ∧ d ≤ s.cfgBit1Max then .one
  else .malformed

/-- `{f[38:0], b}`: the assembly register shifted left by one with the new bit at bit 0 (40_decoder.md R123). -/
def shiftIn (f : Frame) (b : Bool) : Frame := (f ++ BitVec.ofBool b).setWidth 40

/-- The errors a decode cycle can end in, with what they carry (60_exceptions.md R240). -/
inductive DecodeError where
  /-- A handshake wait timed out (R242). -/
  | noResponse
  /-- A bit's rise or fall did not come in time (R243). -/
  | timeout (bitIndex : BitVec 6)
  /-- A high duration classified malformed (R244). -/
  | invalidPulse (bitIndex : BitVec 6) (duration : Word)
deriving DecidableEq, Repr

/-- The result an error latches (60_exceptions.md R240). -/
def DecodeError.result : DecodeError → ResultCode
  | .noResponse => .noResponse
  | .timeout _ => .timeout
  | .invalidPulse _ _ => .invalidPulse

/-- The bitIndex an error records, 0 for NoResponse (60_exceptions.md R241). -/
def DecodeError.bit : DecodeError → BitVec 6
  | .noResponse => 0
  | .timeout n => n
  | .invalidPulse n _ => n

/-- The duration an error records, 0 but for InvalidPulse (60_exceptions.md R241). -/
def DecodeError.dur : DecodeError → Word
  | .noResponse => 0
  | .timeout _ => 0
  | .invalidPulse _ d => d

/-- The error latch, the one way an error is taken: `raise e`, detected in the state `detected`, written over `h`
(60_exceptions.md R241). -/
def errorLatch (e : DecodeError) (detected : FsmState) (h : State) : State :=
  ((h.withState .idle).withOutcome e.result true).withError e.bit detected e.dur

/-- The result of a complete frame (40_decoder.md R134; 60_exceptions.md R245). -/
def frameResult (f : Frame) : ResultCode := if validate f then .ok else .checksumError

/-- `Commit(f)`, written over `h` (40_decoder.md R134). -/
def commit (f : Frame) (h : State) : State :=
  (((h.withBits f 40).withFrame f true).withOutcome (frameResult f) true).withState .idle

/-- What START writes when it is taken (40_decoder.md R126). It is also what ends the handling of an outcome, there
being no return from an error (60_exceptions.md R248). -/
def beginDecode (s : State) : State :=
  (((((s.withState .startLow).withMark s.now).withBits 0 0).withFrame 0 false).withOutcome .none false).withError 0 .idle 0

/-- The acknowledgement of an outcome: `done` is cleared and nothing else (42_register_access.md R206). -/
def acknowledge (s : State) : State := s.withDone false

/-- A bus cycle of which the host sees `v` on `bus_rdata` and that leaves the registers as in `s`
(42_register_access.md R190). -/
def busCycle (v : Word) (s : State) : Answer := .next (s.withBusRdata v)

/-- A write that takes effect only while SWPD is idle and is ignored otherwise (42_register_access.md R205;
70_reset_and_hazards.md R275, R276): `new` if idle, `s` if busy, with `v` on `bus_rdata`. -/
def idleWrite (v : Word) (new s : State) : Answer := busCycle v (if busy s then s else new)

end Sys2Proof.Machine
end

