-- ==== Sys2Proof/Machine/Fsm.lean ====
section
/-! DEFINITION. The timing state machine: one rule per state (40_decoder.md R125, R127 to R133), each naming the one
thing it does at an edge, and the writes that thing makes. -/

namespace Sys2Proof.Machine

/-- What a state rule does at an edge; a rule has one outcome per edge (60_exceptions.md R251). -/
inductive Transition where
  /-- No register changes by the state rule. -/
  | hold
  /-- A phase begins: `state` is written, and `t_mark` takes `NOW`. -/
  | enter (next : FsmState)
  /-- A bit is taken: the assembly register takes `f`, `bit_cnt` counts it, and the next bit's wait begins. -/
  | capture (f : Frame)
  /-- The fortieth bit is taken (R134). -/
  | commit (f : Frame)
  /-- An error is raised (60_exceptions.md R241). -/
  | fail (e : DecodeError)
deriving DecidableEq, Repr

/-- Whether a transition ends the decode cycle and so sets `done` (10_state.md R30). -/
def Transition.completes : Transition → Bool
  | .commit _ => true
  | .fail _ => true
  | .hold => false
  | .enter _ => false
  | .capture _ => false

/-- `WaitFor(level, next, err)`: the level is tested before the timeout (40_decoder.md R121). -/
def waitFor (level : Bool) (next : FsmState) (err : DecodeError) (s : State) : Transition :=
  if s.line = level then .enter next else if s.cfgTimeout ≤ elapsed s then .fail err else .hold

/-- A dwell of `bound` µs that does not look at the line (40_decoder.md R127, R128). -/
def dwell (bound : Word) (next : FsmState) (s : State) : Transition :=
  if bound ≤ elapsed s then .enter next else .hold

/-- A classified bit: the fortieth commits, any other is assembled (40_decoder.md R133). -/
def takeBit (b : Bool) (s : State) : Transition :=
  if s.bitCnt = 39 then .commit (shiftIn s.shift b) else .capture (shiftIn s.shift b)

/-- The fall that ends a high of `elapsed s` µs (40_decoder.md R133). -/
def fall (s : State) : Transition :=
  match classify s (elapsed s) with
  | .zero => takeBit false s
  | .one => takeBit true s
  | .malformed => .fail (.invalidPulse s.bitCnt (elapsed s))

/-- BIT_MEASURE: the fall is tested before the timeout (40_decoder.md R133; 60_exceptions.md R251). -/
def measureRule (s : State) : Transition :=
  if s.line = false then fall s else if s.cfgTimeout ≤ elapsed s then .fail (.timeout s.bitCnt) else .hold

/-- The state rule of `R.state` (40_decoder.md R125, R127 to R133). START, which only IDLE reads, is the host
operation's own meaning. -/
def stateRule (s : State) : Transition :=
  match s.state with
  | .idle => .hold
  | .startLow => dwell s.cfgStartLow .startRel s
  | .startRel => dwell s.cfgRelease .hsWaitLow s
  | .hsWaitLow => waitFor false .hsWaitHigh .noResponse s
  | .hsWaitHigh => waitFor true .hsWaitData .noResponse s
  | .hsWaitData => waitFor false .bitWaitHigh .noResponse s
  | .bitWaitHigh => waitFor true .bitMeasure (.timeout s.bitCnt) s
  | .bitMeasure => measureRule s

/-- The writes of a transition that the rule of `pre` chose, made over `h`, the state as the host operation leaves it.
Every right-hand side reads `pre` (00_scope.md R9; 60_exceptions.md R250). `bit_cnt` is a 6-bit register (log entry 7). -/
def applyTransition (t : Transition) (pre h : State) : State :=
  match t with
  | .hold => h
  | .enter next => (h.withState next).withMark pre.now
  | .capture f => ((h.withBits f (pre.bitCnt + 1)).withState .bitWaitHigh).withMark pre.now
  | .commit f => commit f h
  | .fail e => errorLatch e pre.state h

end Sys2Proof.Machine
end

