-- ==== Sys2Proof/Machine/Commands.lean ====
section
/-! DEFINITION. The writes to CTRL: START, CLEAR and CTRL_NOP (40_decoder.md R126; 42_register_access.md R206, R207). -/

namespace Sys2Proof.Machine

/-- START (40_decoder.md R126): begins a decode cycle while idle, ignored while busy, whatever the other bits of D. -/
def execStart (_d : Word) (s : State) : Answer := idleWrite ctrlValue (beginDecode s) s

/-- CLEAR (42_register_access.md R206): clears `done`, unless the state rule sets it at this edge. -/
def execClear (_d : Word) (s : State) : Answer :=
  busCycle ctrlValue (if (stateRule s).completes then s else acknowledge s)

/-- CTRL_NOP (42_register_access.md R207): no register changes. -/
def execCtrlNop (_d : Word) (s : State) : Answer := busCycle ctrlValue s

end Sys2Proof.Machine
end

