-- ==== Sys2Proof/Machine/ConfigWrites.lean ====
section
/-! DEFINITION. The writes of the seven timing configuration registers (42_register_access.md R213 to R219): the whole
data word while idle, ignored while busy. -/

namespace Sys2Proof.Machine

/-- WR_TIMEOUT (R213). -/
def execWrTimeout (d : Word) (s : State) : Answer := idleWrite s.cfgTimeout (s.withCfgTimeout d) s

/-- WR_START_LOW (R214). -/
def execWrStartLow (d : Word) (s : State) : Answer := idleWrite s.cfgStartLow (s.withCfgStartLow d) s

/-- WR_RELEASE (R215). -/
def execWrRelease (d : Word) (s : State) : Answer := idleWrite s.cfgRelease (s.withCfgRelease d) s

/-- WR_BIT0_MIN (R216). -/
def execWrBit0Min (d : Word) (s : State) : Answer := idleWrite s.cfgBit0Min (s.withCfgBit0Min d) s

/-- WR_BIT0_MAX (R217). -/
def execWrBit0Max (d : Word) (s : State) : Answer := idleWrite s.cfgBit0Max (s.withCfgBit0Max d) s

/-- WR_BIT1_MIN (R218). -/
def execWrBit1Min (d : Word) (s : State) : Answer := idleWrite s.cfgBit1Min (s.withCfgBit1Min d) s

/-- WR_BIT1_MAX (R219). -/
def execWrBit1Max (d : Word) (s : State) : Answer := idleWrite s.cfgBit1Max (s.withCfgBit1Max d) s

end Sys2Proof.Machine
end

