-- ==== Sys2Proof/Machine/IgnoredWrites.lean ====
section
/-! DEFINITION. The writes that change nothing: to a read-only register or a reserved slot (42_register_access.md R208
to R212, R220). `bus_rdata` still shows the slot, since it does so whatever `bus_we` is (R190). -/

namespace Sys2Proof.Machine

/-- WR_STATUS (R208): the write is ignored. -/
def execWrStatus (_d : Word) (s : State) : Answer := busCycle (statusValue s) s

/-- WR_DATA (R209): the write is ignored. -/
def execWrData (_d : Word) (s : State) : Answer := busCycle (dataValue s) s

/-- WR_CHECK (R210): the write is ignored. -/
def execWrCheck (_d : Word) (s : State) : Answer := busCycle (checkValue s) s

/-- WR_ERR_INFO (R211): the write is ignored. -/
def execWrErrInfo (_d : Word) (s : State) : Answer := busCycle (errInfoValue s) s

/-- WR_ERR_DUR (R212): the write is ignored. -/
def execWrErrDur (_d : Word) (s : State) : Answer := busCycle (errDurValue s) s

/-- WR_RSVD (R220): the write is ignored. -/
def execWrRsvd (_slot : Slot) (_d : Word) (s : State) : Answer := busCycle reservedValue s

end Sys2Proof.Machine
end

