-- ==== Sys2Proof/Machine/RegisterReads.lean ====
section
/-! DEFINITION. The reads (42_register_access.md R190 to R204): the register's view goes to `bus_rdata`, and no register
changes. -/

namespace Sys2Proof.Machine

/-- RD_CTRL (R191). -/
def execRdCtrl (s : State) : Answer := busCycle ctrlValue s

/-- RD_STATUS (R192). -/
def execRdStatus (s : State) : Answer := busCycle (statusValue s) s

/-- RD_DATA (R193). -/
def execRdData (s : State) : Answer := busCycle (dataValue s) s

/-- RD_CHECK (R194). -/
def execRdCheck (s : State) : Answer := busCycle (checkValue s) s

/-- RD_ERR_INFO (R195). -/
def execRdErrInfo (s : State) : Answer := busCycle (errInfoValue s) s

/-- RD_ERR_DUR (R196). -/
def execRdErrDur (s : State) : Answer := busCycle (errDurValue s) s

/-- RD_TIMEOUT (R197). -/
def execRdTimeout (s : State) : Answer := busCycle s.cfgTimeout s

/-- RD_START_LOW (R198). -/
def execRdStartLow (s : State) : Answer := busCycle s.cfgStartLow s

/-- RD_RELEASE (R199). -/
def execRdRelease (s : State) : Answer := busCycle s.cfgRelease s

/-- RD_BIT0_MIN (R200). -/
def execRdBit0Min (s : State) : Answer := busCycle s.cfgBit0Min s

/-- RD_BIT0_MAX (R201). -/
def execRdBit0Max (s : State) : Answer := busCycle s.cfgBit0Max s

/-- RD_BIT1_MIN (R202). -/
def execRdBit1Min (s : State) : Answer := busCycle s.cfgBit1Min s

/-- RD_BIT1_MAX (R203). -/
def execRdBit1Max (s : State) : Answer := busCycle s.cfgBit1Max s

/-- RD_RSVD (R204): every reserved slot reads 0. -/
def execRdRsvd (_slot : Slot) (s : State) : Answer := busCycle reservedValue s

end Sys2Proof.Machine
end

