-- ==== Sys2Proof/Machine/Dispatch.lean ====
section
/-! DEFINITION. The meaning of every host operation, one arm per constructor. -/

namespace Sys2Proof.Machine

def exec (i : Instr) (s : State) : Host.Outcome State Fault Refusal :=
  match i with
  | .rdCtrl => Sys2Proof.Machine.execRdCtrl s
  | .rdStatus => Sys2Proof.Machine.execRdStatus s
  | .rdData => Sys2Proof.Machine.execRdData s
  | .rdCheck => Sys2Proof.Machine.execRdCheck s
  | .rdErrInfo => Sys2Proof.Machine.execRdErrInfo s
  | .rdErrDur => Sys2Proof.Machine.execRdErrDur s
  | .rdTimeout => Sys2Proof.Machine.execRdTimeout s
  | .rdStartLow => Sys2Proof.Machine.execRdStartLow s
  | .rdRelease => Sys2Proof.Machine.execRdRelease s
  | .rdBit0Min => Sys2Proof.Machine.execRdBit0Min s
  | .rdBit0Max => Sys2Proof.Machine.execRdBit0Max s
  | .rdBit1Min => Sys2Proof.Machine.execRdBit1Min s
  | .rdBit1Max => Sys2Proof.Machine.execRdBit1Max s
  | .rdRsvd slot => Sys2Proof.Machine.execRdRsvd slot s
  | .start d => Sys2Proof.Machine.execStart d s
  | .clear d => Sys2Proof.Machine.execClear d s
  | .ctrlNop d => Sys2Proof.Machine.execCtrlNop d s
  | .wrStatus d => Sys2Proof.Machine.execWrStatus d s
  | .wrData d => Sys2Proof.Machine.execWrData d s
  | .wrCheck d => Sys2Proof.Machine.execWrCheck d s
  | .wrErrInfo d => Sys2Proof.Machine.execWrErrInfo d s
  | .wrErrDur d => Sys2Proof.Machine.execWrErrDur d s
  | .wrTimeout d => Sys2Proof.Machine.execWrTimeout d s
  | .wrStartLow d => Sys2Proof.Machine.execWrStartLow d s
  | .wrRelease d => Sys2Proof.Machine.execWrRelease d s
  | .wrBit0Min d => Sys2Proof.Machine.execWrBit0Min d s
  | .wrBit0Max d => Sys2Proof.Machine.execWrBit0Max d s
  | .wrBit1Min d => Sys2Proof.Machine.execWrBit1Min d s
  | .wrBit1Max d => Sys2Proof.Machine.execWrBit1Max d s
  | .wrRsvd slot d => Sys2Proof.Machine.execWrRsvd slot d s

end Sys2Proof.Machine
end

