-- ==== Sys2Proof/Machine/Edge.lean ====
section
/-! DEFINITION. What an edge does around the host operation: the merge with the state rule, the passage to the next
edge's inputs, and reset (40_decoder.md R124; 60_exceptions.md R250; 70_reset_and_hazards.md R270). -/

namespace Sys2Proof.Machine

/-- The inputs of this edge are consumed and the edge is counted. -/
def nextEdge (pre h : State) : State := h.withEnv pre.inputs.tail (pre.edge + 1)

/-- The end of an edge with `rst = 0`: the state rule of `pre` is written over `h`, the state as the host operation
leaves it, so that a completion wins over CLEAR (60_exceptions.md R250). Log entry 12. -/
def finishEdge (pre h : State) : State := nextEdge pre (applyTransition (stateRule pre) pre h)

/-- An edge with `rst = 1`: every register takes its reset value and no rule acts (70_reset_and_hazards.md R270).
`bus_rdata` in the cycle before the edge is the read value as always (42_register_access.md R190; log entry 2). -/
def resetEdge (pre : State) : State :=
  nextEdge pre (State.reset.withBusRdata (readValue (busSlot pre.input) pre))

end Sys2Proof.Machine
end

