-- ==== Sys2Proof/Machine/Step.lean ====
section
/-! DEFINITION. One step: one rising edge of `clk` (40_decoder.md R124). -/

namespace Sys2Proof.Machine

/-- One edge: reset first; otherwise the host operation on the bus and the state rule of `R.state`, both reading the
state before the edge, with their writes merged (40_decoder.md R124; 60_exceptions.md R250). -/
def step (s : State) : Host.Outcome State Fault Refusal :=
  if s.input.rst then .next (resetEdge s)
  else
    match exec (fetch s) s with
    | .next h => .next (finishEdge s h)
    | .fault r => .fault r
    | .refused r => .refused r

/-- `s` with the host operation word in the low `nbits` bits of `w` on the bus at the coming edge, and `rst` released
there. Log entry 4. -/
def State.withFetchWord (s : State) (nbits w : Nat) : State := s.withHostWord (BitVec.ofNat 39 (w % 2 ^ nbits))

end Sys2Proof.Machine
end

