-- ==== Sys2Proof/Safety.lean ====
section
/-! DEFINITION. What counts as a safe run, in the terms the claims use: the facts of every reachable state, the record
an error leaves, the duties of the environment, and the pulse trains a sensor sends. -/

namespace Sys2Proof.Machine

/-- The facts (a) to (f) of 10_state.md R38. -/
structure ReachableFacts (s : State) : Prop where
  /-- (a) -/
  done_idle : s.done = true → s.state = .idle
  /-- (b) -/
  noFrame_zero : s.frameValid = false → s.frame = 0
  /-- (c) -/
  frame_idle : s.frameValid = true → s.state = .idle ∧ s.bitCnt = 40 ∧ (s.result = .ok ∨ s.result = .checksumError)
  /-- (d) -/
  busy_noResult : s.state ≠ .idle → s.result = .none
  /-- (e), the two states of BitCapture. -/
  capture_count : s.state = .bitWaitHigh ∨ s.state = .bitMeasure → s.bitCnt.toNat ≤ 39
  /-- (e), the states from START_LOW to HS_WAIT_DATA. -/
  early_count : s.state ∈ [.startLow, .startRel, .hsWaitLow, .hsWaitHigh, .hsWaitData] → s.bitCnt = 0
  /-- (f) -/
  ok_iff : s.result = .ok ↔ s.frameValid = true ∧ chkOk s = true

/-- What the outcome registers record (10_state.md R31, R32; 60_exceptions.md R240, R241). -/
structure OutcomeRecord (s : State) : Prop where
  /-- A finished cycle has an outcome. -/
  done_outcome : s.done = true → s.result ≠ .none
  /-- Without a decode error the error registers are 0. -/
  noError_clear : s.result = .none ∨ s.result = .ok ∨ s.result = .checksumError →
    s.errBit = 0 ∧ s.errState = .idle ∧ s.errDur = 0
  /-- NoResponse. -/
  noResponse_record : s.result = .noResponse →
    s.errState ∈ [.hsWaitLow, .hsWaitHigh, .hsWaitData] ∧ s.errBit = 0 ∧ s.errDur = 0 ∧ s.frameValid = false
  /-- Timeout(bitIndex). -/
  timeout_record : s.result = .timeout →
    s.errState ∈ [.bitWaitHigh, .bitMeasure] ∧ s.errBit = s.bitCnt ∧ s.bitCnt.toNat ≤ 39 ∧ s.errDur = 0
      ∧ s.frameValid = false
  /-- InvalidPulse(bitIndex, duration). -/
  invalidPulse_record : s.result = .invalidPulse →
    s.errState = .bitMeasure ∧ s.errBit = s.bitCnt ∧ s.bitCnt.toNat ≤ 39 ∧ s.frameValid = false

/-- Whether an operation is CLEAR. -/
def isClear : Instr → Bool
  | .clear _ => true
  | _ => false

/-- Whether an operation is START. -/
def isStart : Instr → Bool
  | .start _ => true
  | _ => false

/-- What an edge does in a busy state apart from the state rule: the slot on the bus is shown, CLEAR clears `done`, and
the edge's inputs are consumed; every other operation is ignored (42_register_access.md R205, R206). How the bus value
and the inputs are held is the model's choice: log entries 1, 2 and 3. -/
def busyEdge (s : State) : State :=
  ((s.withBusRdata (readValue (busSlot s.input) s)).withDone (s.done && !isClear (fetch s))).withEnv s.inputs.tail
    (s.edge + 1)

/-- `s` with another address on the bus at the coming edge. -/
def State.withBusAddr (s : State) (a : BitVec 6) : State :=
  s.withEnv ({ s.input with busAddr := a } :: s.inputs.tail) s.edge

/-- `s` with another timestamp and another level of the line at the coming edge. -/
def State.withWire (s : State) (now : Word) (line : Bool) : State :=
  s.withEnv ({ s.input with nowUs := now, lineI := line } :: s.inputs.tail) s.edge

/-- The register a configuration write names, and the value it carries (42_register_access.md R213 to R219). -/
def configTarget : Instr → Option (Slot × Word)
  | .wrTimeout d => some (6, d)
  | .wrStartLow d => some (7, d)
  | .wrRelease d => some (8, d)
  | .wrBit0Min d => some (9, d)
  | .wrBit0Max d => some (10, d)
  | .wrBit1Min d => some (11, d)
  | .wrBit1Max d => some (12, d)
  | _ => none

/-- Two states with the same timing configuration (10_state.md R33). -/
def SameConfig (s t : State) : Prop :=
  t.cfgTimeout = s.cfgTimeout ∧ t.cfgStartLow = s.cfgStartLow ∧ t.cfgRelease = s.cfgRelease
    ∧ t.cfgBit0Min = s.cfgBit0Min ∧ t.cfgBit0Max = s.cfgBit0Max ∧ t.cfgBit1Min = s.cfgBit1Min
    ∧ t.cfgBit1Max = s.cfgBit1Max

/-- How far `now_us` advances from edge to edge, modulo 2^32, along a run of edges after one with timestamp `t0`. -/
def advances (t0 : Word) : List EdgeInput → List Nat
  | [] => []
  | e :: es => (e.nowUs - t0).toNat :: advances e.nowUs es

/-- The time a run of edges takes, in units of `now_us`. -/
def elapsedOver (t0 : Word) (es : List EdgeInput) : Nat := (advances t0 es).sum

/-- The timestamp duty of 70_reset_and_hazards.md R278 with the bound of R279: no advance exceeds `Δ`, so none is a
backward step. -/
def Paced (Δ : Nat) (t0 : Word) (es : List EdgeInput) : Prop := ∀ a ∈ advances t0 es, a ≤ Δ

/-- The bounds of 70_reset_and_hazards.md R279: no bound is within `Δ` of the wrap of the timestamp. -/
def BoundsFit (Δ : Nat) (s : State) : Prop :=
  s.cfgStartLow.toNat + Δ ≤ 2 ^ 32 - 1 ∧ s.cfgRelease.toNat + Δ ≤ 2 ^ 32 - 1 ∧ s.cfgTimeout.toNat + Δ ≤ 2 ^ 32 - 1

/-- The bound on a decode cycle (40_decoder.md R137). -/
def cycleBound (Δ : Nat) (s : State) : Nat :=
  s.cfgStartLow.toNat + s.cfgRelease.toNat + 83 * s.cfgTimeout.toNat + 85 * Δ

/-- The host duty of 70_reset_and_hazards.md R284: `MIN_START_INTERVAL` between two STARTs. SWPD does not enforce it.
R284 does not say how the interval is measured: here it runs from START to START and is the difference of `now_us` at
the two edges modulo 2^32, so that an interval of 2^32 µs or more can count as too short. DESIGN CHOICE, safe: log
entry 18. -/
def StartsSpaced (lastStart nextStart : Word) : Prop := Config.minStartInterval ≤ (nextStart - lastStart).toNat

/-- The edges of one data bit as SWPD samples them (30_encoding.md R87): the edges that see the low phase, the first
that sees high, the others that see high, and the first that sees low again. -/
structure Pulse where
  /-- The low phase. -/
  lows : List EdgeInput
  /-- The first edge that sees high. -/
  rise : EdgeInput
  /-- The later edges that see high. -/
  highs : List EdgeInput
  /-- The first edge that sees low again. -/
  fall : EdgeInput
deriving DecidableEq, Repr

/-- The edges of a pulse in order. -/
def Pulse.edges (p : Pulse) : List EdgeInput := p.lows ++ p.rise :: (p.highs ++ [p.fall])

/-- The high duration of a pulse in units of `now_us` (40_decoder.md R133). -/
def Pulse.width (p : Pulse) : Word := p.fall.nowUs - p.rise.nowUs

/-- A pulse whose waits stay below the timeout, with no reset, its low phase starting at `mark` (40_decoder.md R132,
R133). Its host operations are arbitrary. -/
def Pulse.Timely (timeout mark : Word) (p : Pulse) : Prop :=
  (∀ e ∈ p.lows, e.rst = false ∧ e.lineI = false ∧ e.nowUs - mark < timeout)
    ∧ (p.rise.rst = false ∧ p.rise.lineI = true)
    ∧ (∀ e ∈ p.highs, e.rst = false ∧ e.lineI = true ∧ e.nowUs - p.rise.nowUs < timeout)
    ∧ (p.fall.rst = false ∧ p.fall.lineI = false)

/-- A train of pulses that sends the given bits under the configuration of `s`, each pulse timely and of a width that
classifies as its bit. -/
def Sends (s : State) : Word → List Pulse → List Bool → Prop
  | _, [], [] => True
  | mark, p :: ps, b :: bs =>
    p.Timely s.cfgTimeout mark ∧ classify s p.width = (if b then .one else .zero) ∧ Sends s p.fall.nowUs ps bs
  | _, _, _ => False

/-- A run of `n` edges: `Host.Core.run` for this machine. -/
def runEdges : Nat → State → Answer
  | 0, s => .next s
  | n + 1, s =>
    match step s with
    | .next t => runEdges n t
    | .fault r => .fault r
    | .refused r => .refused r

/-- The bound of a phase before `Δ` is added (40_decoder.md R137); IDLE has none. -/
def phaseBound (s : State) : Nat :=
  match s.state with
  | .idle => 0
  | .startLow => s.cfgStartLow.toNat
  | .startRel => s.cfgRelease.toNat
  | .hsWaitLow | .hsWaitHigh | .hsWaitData | .bitWaitHigh | .bitMeasure => s.cfgTimeout.toNat

end Sys2Proof.Machine
end

