-- ==== Sys2Proof/Certificates/Slice0/Obligations.lean ====
section
/-! DEFINITION. The statements for the provers, each a proposition about the model named for what it says. -/

open Sys2Proof Sys2Proof.Machine

/-! Encoding. -/

/-- Decoding the word of any well-formed operation gives the operation back (30_encoding.md R80, R81, R90, R96). -/
def Obligations.DecodeEncodeRoundTrip : Prop :=
  ∀ i : Instr, wellFormed i = true → decode (encode i) = i

/-- The operation read from a word is well formed, and encoding it gives the word back but for two of the fields that
30_encoding.md R80 calls ignored, the two low address bits and the data of a read, which come back as 0; the data of a
write comes back whole, also where the operation ignores it. That `encode` writes 0 in those two fields and keeps the
data of a write is the model's choice, no rule of the spec: log entry 14 (DESIGN CHOICE). -/
def Obligations.EncodeDecodeClearsOnlyIgnoredBits : Prop :=
  ∀ h : HostOp, wellFormed (decode h) = true ∧
    encode (decode h) = (if opWrite h then h &&& 0x7CFFFFFFFF else h &&& 0x7C00000000)

/-- Every word matches exactly one row of the opcode table, the decoder names that row, and the operation completes in
every state (30_encoding.md R92). -/
def Obligations.EachWordMatchesExactlyOneRow : Prop :=
  ∀ h : HostOp, (opcodeTable.filter (·.covers h)).map (·.mnemonic) = [(decode h).mnemonic]
    ∧ ∀ s : State, ∃ t, exec (decode h) s = .next t

/-- Words of the programs P1, P3 and P4 of 95_test_vectors.md decode to the operations they are listed for, and the
CTRL command field follows 30_encoding.md R81. -/
def Obligations.DecodesProgramWords : Prop :=
  decode 0x4000000001#39 = .start 1 ∧ decode 0x4000000003#39 = .start 3 ∧ decode 0x4000000002#39 = .clear 2
    ∧ decode 0x40FFFFFFFC#39 = .ctrlNop 0xFFFFFFFC ∧ decode 0x0400000000#39 = .rdStatus
    ∧ decode 0x0800000000#39 = .rdData ∧ decode 0x1400000000#39 = .rdErrDur ∧ decode 0x6400000014#39 = .wrBit0Min 20
    ∧ decode 0x7000000050#39 = .wrBit1Max 80 ∧ decode 0x3C00000000#39 = .rdRsvd 15

/-- `bus_addr[1:0]` is ignored: every address accesses the word of slot `bus_addr[5:2]`, two addresses of one slot give
the same edge, and no address traps (20_memory.md R71). -/
def Obligations.AddressLowBitsIgnored : Prop :=
  ∀ (s : State) (a : BitVec 6),
    (fetch (s.withBusAddr a)).slot = a.extractLsb' 2 4
    ∧ (∃ t, step (s.withBusAddr a) = .next t ∧ t.busRdata = readValue (a.extractLsb' 2 4) s)
    ∧ ∀ a' : BitVec 6, a.extractLsb' 2 4 = a'.extractLsb' 2 4 → step (s.withBusAddr a) = step (s.withBusAddr a')

/-! The step. -/

/-- At an edge without reset both the operation on the bus and the state rule act (40_decoder.md R124), and their writes
are merged (60_exceptions.md R250). The form is the model's choice, no rule of the spec: that the operation runs first
and the state rule of the state before the edge is written over its result is log entry 12 (DESIGN CHOICE), and that the
step passes to the next edge's inputs and counts the edge is log entries 1 and 3 (DESIGN CHOICE). -/
def Obligations.StepRunsDecodedOperation : Prop :=
  ∀ (s h : State) (i : Instr), s.input.rst = false → decode (hostWord s.input) = i → exec i s = .next h →
    step s = .next ((applyTransition (stateRule s) s h).withEnv s.inputs.tail (s.edge + 1))

/-- No operation and no edge stops the machine (40_decoder.md R124; 30_encoding.md R92; 60_exceptions.md R249). -/
def Obligations.EveryEdgeHasANextState : Prop :=
  (∀ (i : Instr) (s : State), ∃ t, exec i s = .next t) ∧ ∀ s : State, ∃ t, step s = .next t

/-! Reset. -/

/-- The state after reset is the table of 10_state.md R39; the line is released, nothing is busy or done. -/
def Obligations.ResetStateIsTheTable : Prop :=
  State.reset.state = .idle ∧ State.reset.tMark = 0 ∧ State.reset.shift = 0 ∧ State.reset.frame = 0
    ∧ State.reset.frameValid = false ∧ State.reset.bitCnt = 0 ∧ State.reset.done = false ∧ State.reset.result = .none
    ∧ State.reset.errBit = 0 ∧ State.reset.errState.code = 0 ∧ State.reset.errDur = 0
    ∧ State.reset.cfgTimeout = 1000 ∧ State.reset.cfgStartLow = 18000 ∧ State.reset.cfgRelease = 30
    ∧ State.reset.cfgBit0Min = 40 ∧ State.reset.cfgBit0Max = 50 ∧ State.reset.cfgBit1Min = 65
    ∧ State.reset.cfgBit1Max = 75
    ∧ lineOe State.reset = false ∧ busy State.reset = false ∧ doneO State.reset = false

/-- An edge with `rst = 1` gives every register its reset value whatever the state, the operation, the line and the
timestamp are (70_reset_and_hazards.md R270). -/
def Obligations.ResetEdgeOverridesEverything : Prop :=
  ∀ s : State, s.input.rst = true → ∃ t, step s = .next t
    ∧ t = (State.reset.withBusRdata t.busRdata).withEnv s.inputs.tail (s.edge + 1)
    ∧ statusValue t = 0 ∧ lineOe t = false ∧ busyO t = false ∧ doneO t = false

/-! Reads. -/

/-- In every cycle, read, write or reset, `bus_rdata` is the read value of the addressed slot in the state before the
edge, and a read changes no register and raises no error (42_register_access.md R190). -/
def Obligations.BusShowsTheSlotBeforeTheEdge : Prop :=
  ∀ s : State, (∃ t, step s = .next t ∧ t.busRdata = readValue (busSlot s.input) s)
    ∧ (s.input.busWe = false → exec (fetch s) s = .next (s.withBusRdata (readValue (busSlot s.input) s)))

/-- Every well-formed read completes in every state and changes nothing but the value shown on the bus, which is that
of its slot: RD_CTRL, RD_STATUS, RD_DATA, RD_CHECK, RD_ERR_INFO, RD_ERR_DUR, RD_TIMEOUT, RD_START_LOW, RD_RELEASE,
RD_BIT0_MIN, RD_BIT0_MAX, RD_BIT1_MIN, RD_BIT1_MAX, RD_RSVD (42_register_access.md R190 to R204). -/
def Obligations.ReadsChangeOnlyTheBus : Prop :=
  ∀ (i : Instr) (s : State), wellFormed i = true → i.isWrite = false →
    exec i s = .next (s.withBusRdata (readValue i.slot s))

/-- RD_STATUS completes in every state and shows every field of STATUS at its bits, with 0 in the reserved ones; after
reset it shows 0 (42_register_access.md R192; 20_memory.md R63). -/
def Obligations.StatusReadShowsEveryField : Prop :=
  (∀ s : State, ∃ v : Word, exec .rdStatus s = .next (s.withBusRdata v)
    ∧ v.getLsbD 0 = decide (s.state ≠ .idle) ∧ v.getLsbD 1 = s.done ∧ v.getLsbD 2 = s.frameValid
    ∧ v.getLsbD 3 = (s.frameValid && validate s.frame) ∧ v.getLsbD 4 = decide (s.state = .startLow)
    ∧ v.extractLsb' 5 3 = 0 ∧ v.extractLsb' 8 3 = s.state.code ∧ v.getLsbD 11 = false
    ∧ v.extractLsb' 12 4 = s.result.code ∧ v.extractLsb' 16 6 = s.bitCnt ∧ v.extractLsb' 22 10 = 0)
    ∧ statusValue State.reset = 0

/-- RD_DATA and RD_CHECK complete in every state and show the frame's bytes, the computed sum and the integrity byte;
the two together are the frame in wire order; without a frame both show 0 (42_register_access.md R193, R194;
20_memory.md R65, R66). -/
def Obligations.DataAndCheckShowTheFrame : Prop :=
  ∀ s : State, ∃ v w : Word,
    exec .rdData s = .next (s.withBusRdata v) ∧ exec .rdCheck s = .next (s.withBusRdata w)
    ∧ v = s.frame.extractLsb' 8 32
    ∧ v.extractLsb' 24 8 = frameByte s.frame 0 ∧ v.extractLsb' 16 8 = frameByte s.frame 1
    ∧ v.extractLsb' 8 8 = frameByte s.frame 2 ∧ v.extractLsb' 0 8 = frameByte s.frame 3
    ∧ w.extractLsb' 0 8 = s.frame.extractLsb' 0 8 ∧ w.extractLsb' 8 8 = sum4 s.frame ∧ w.extractLsb' 16 16 = 0
    ∧ (chkOk s = true ↔ s.frameValid = true ∧ w.extractLsb' 8 8 = w.extractLsb' 0 8)
    ∧ v ++ w.extractLsb' 0 8 = s.frame
    ∧ (ReachableFacts s → s.frameValid = false → v = 0 ∧ w = 0)

/-- RD_ERR_INFO and RD_ERR_DUR complete in every state and show the error registers at their bits
(42_register_access.md R195, R196; 20_memory.md R67, R68); in every state that meets the record invariant they show 0
unless a decode error is recorded, and ERR_DUR shows 0 unless it is an InvalidPulse. -/
def Obligations.ErrorReadsShowTheLatch : Prop :=
  ∀ s : State, ∃ v w : Word,
    exec .rdErrInfo s = .next (s.withBusRdata v) ∧ exec .rdErrDur s = .next (s.withBusRdata w)
    ∧ v.extractLsb' 0 6 = s.errBit ∧ v.extractLsb' 6 2 = 0 ∧ v.extractLsb' 8 3 = s.errState.code
    ∧ v.extractLsb' 11 21 = 0 ∧ w = s.errDur
    ∧ (OutcomeRecord s → (s.result = .ok ∨ s.result = .checksumError ∨ s.result = .none → v = 0 ∧ w = 0)
      ∧ (s.result = .noResponse → v.extractLsb' 0 6 = 0 ∧ v.extractLsb' 8 3 ∈ [3#3, 4#3, 5#3])
      ∧ (s.result ≠ .invalidPulse → w = 0))

/-- The seven configuration reads complete in every state, busy or idle, and show their registers
(42_register_access.md R197 to R203). -/
def Obligations.ConfigReadsShowTheRegister : Prop :=
  ∀ s : State, exec .rdTimeout s = .next (s.withBusRdata s.cfgTimeout)
    ∧ exec .rdStartLow s = .next (s.withBusRdata s.cfgStartLow)
    ∧ exec .rdRelease s = .next (s.withBusRdata s.cfgRelease)
    ∧ exec .rdBit0Min s = .next (s.withBusRdata s.cfgBit0Min)
    ∧ exec .rdBit0Max s = .next (s.withBusRdata s.cfgBit0Max)
    ∧ exec .rdBit1Min s = .next (s.withBusRdata s.cfgBit1Min)
    ∧ exec .rdBit1Max s = .next (s.withBusRdata s.cfgBit1Max)

/-- RD_CTRL and RD_RSVD complete in every state and show 0 (42_register_access.md R191, R204). -/
def Obligations.CtrlAndReservedReadZero : Prop :=
  ∀ s : State, exec .rdCtrl s = .next (s.withBusRdata 0)
    ∧ ∀ slot : Slot, 13 ≤ slot.toNat → exec (.rdRsvd slot) s = .next (s.withBusRdata 0)

/-- `t_mark` and `shift` are never observable: no slot and no output depends on them (60_exceptions.md R257). -/
def Obligations.HiddenRegistersAreNeverShown : Prop :=
  ∀ (s : State) (slot : Slot) (f : Frame) (m : Word), readValue slot ((s.withBits f s.bitCnt).withMark m) = readValue slot s
    ∧ lineOe ((s.withBits f s.bitCnt).withMark m) = lineOe s ∧ doneO ((s.withBits f s.bitCnt).withMark m) = doneO s
    ∧ busyO ((s.withBits f s.bitCnt).withMark m) = busyO s

/-! Commands and writes. -/

/-- START completes in every state: while idle it begins a decode cycle, writes exactly the listed registers and makes
STATUS read 0x00000111; while busy it changes no register (40_decoder.md R126). -/
def Obligations.StartBeginsACycleOnlyWhenIdle : Prop :=
  ∀ (s : State) (d : Word),
    (s.state = .idle → ∃ t, exec (.start d) s = .next t
      ∧ t = { s with
          state := .startLow, tMark := s.now, bitCnt := 0, shift := 0, frame := 0, frameValid := false, done := false,
          result := .none, errBit := 0, errState := .idle, errDur := 0, busRdata := 0 }
      ∧ statusValue t = 0x00000111)
    ∧ (s.state ≠ .idle → exec (.start d) s = .next (s.withBusRdata 0))

/-- CLEAR completes in every state: it clears `done` and nothing else, except at an edge at which the state rule sets
`done`, where it changes no register (42_register_access.md R206). -/
def Obligations.ClearClearsOnlyDone : Prop :=
  ∀ (s : State) (d : Word),
    ((stateRule s).completes = false → exec (.clear d) s = .next ((s.withDone false).withBusRdata 0))
    ∧ ((stateRule s).completes = true → exec (.clear d) s = .next (s.withBusRdata 0))
    ∧ (s.state = .idle → (stateRule s).completes = false)

/-- CTRL_NOP and the writes to read-only registers and reserved slots, WR_STATUS, WR_DATA, WR_CHECK, WR_ERR_INFO,
WR_ERR_DUR and WR_RSVD, complete in every state and change no register; the bus shows the slot as in any cycle
(42_register_access.md R207 to R212, R220). -/
def Obligations.IgnoredWritesChangeOnlyTheBus : Prop :=
  ∀ (s : State) (d : Word), ∀ i ∈ [Instr.ctrlNop d, .wrStatus d, .wrData d, .wrCheck d, .wrErrInfo d, .wrErrDur d,
      .wrRsvd 13 d, .wrRsvd 14 d, .wrRsvd 15 d],
    exec i s = .next (s.withBusRdata (readValue i.slot s))

/-- The seven configuration writes complete in every state: while idle each stores its data word in its own register
and changes nothing else, while busy it changes no register; the bus shows the register's old value
(42_register_access.md R213 to R219). -/
def Obligations.ConfigWritesStoreOnlyWhenIdle : Prop :=
  ∀ (s : State) (d : Word),
    (s.state = .idle →
      exec (.wrTimeout d) s = .next { s with cfgTimeout := d, busRdata := s.cfgTimeout }
      ∧ exec (.wrStartLow d) s = .next { s with cfgStartLow := d, busRdata := s.cfgStartLow }
      ∧ exec (.wrRelease d) s = .next { s with cfgRelease := d, busRdata := s.cfgRelease }
      ∧ exec (.wrBit0Min d) s = .next { s with cfgBit0Min := d, busRdata := s.cfgBit0Min }
      ∧ exec (.wrBit0Max d) s = .next { s with cfgBit0Max := d, busRdata := s.cfgBit0Max }
      ∧ exec (.wrBit1Min d) s = .next { s with cfgBit1Min := d, busRdata := s.cfgBit1Min }
      ∧ exec (.wrBit1Max d) s = .next { s with cfgBit1Max := d, busRdata := s.cfgBit1Max })
    ∧ (s.state ≠ .idle → ∀ i ∈ [Instr.wrTimeout d, .wrStartLow d, .wrRelease d, .wrBit0Min d, .wrBit0Max d,
        .wrBit1Min d, .wrBit1Max d],
      exec i s = .next (s.withBusRdata (readValue i.slot s)))

/-- A configuration value written while idle is what the next edge shows for that slot, every value being legal; a
configuration write while busy leaves what the slot shows as it was (20_memory.md R64, R75). -/
def Obligations.ConfigWriteReadsBack : Prop :=
  ∀ (s t u : State) (slot : Slot) (d : Word), s.input.rst = false → configTarget (fetch s) = some (slot, d) →
    step s = .next t → busSlot t.input = slot → step t = .next u →
    (s.state = .idle → u.busRdata = d) ∧ (s.state ≠ .idle → u.busRdata = readValue slot s)

/-- While busy no operation writes a register except CLEAR, and CLEAR writes only `done` (42_register_access.md R205). -/
def Obligations.BusyIgnoresEveryOperationButClear : Prop :=
  ∀ (i : Instr) (s t : State), s.state ≠ .idle → exec i s = .next t →
    t = s.withBusRdata t.busRdata
    ∨ ((∃ d, i = .clear d) ∧ t = (s.withDone false).withBusRdata t.busRdata)

/-- A START while busy is the same edge as a CTRL_NOP: it changes nothing and the running cycle goes on
(70_reset_and_hazards.md R275). -/
def Obligations.StartWhileBusyIsIgnored : Prop :=
  ∀ (s : State) (d : Word), s.state ≠ .idle → d.getLsbD 0 = true →
    step (s.withHostWord (encode (.start d))) = step (s.withHostWord (encode (.ctrlNop 0)))

/-- No edge without reset changes the timing configuration while busy (70_reset_and_hazards.md R276). -/
def Obligations.BusyKeepsTheConfiguration : Prop :=
  ∀ s t : State, s.input.rst = false → s.state ≠ .idle → step s = .next t → SameConfig s t

/-- One edge with everything at once: reset overrides; otherwise the operation writes no register the state rule
writes, except `done`, where a completion wins over CLEAR (60_exceptions.md R250). -/
def Obligations.CompletionWinsOverClear : Prop :=
  ∀ s t : State, step s = .next t →
    (s.input.rst = true → t = (State.reset.withBusRdata t.busRdata).withEnv s.inputs.tail (s.edge + 1))
    ∧ (s.input.rst = false →
      (isClear (fetch s) = true → t.done = (stateRule s).completes)
      ∧ ((stateRule s).completes = true → t.done = true)
      ∧ (s.state = .idle → stateRule s = .hold)
      ∧ (s.state ≠ .idle → ∀ h, exec (fetch s) s = .next h → h = (s.withDone h.done).withBusRdata h.busRdata))

/-! The helper functions of the decoder and the validator. -/

/-- `Elapsed()` is the difference of timestamps modulo 2^32 (40_decoder.md R120). -/
def Obligations.ElapsedIsTheModularDifference : Prop :=
  ∀ s : State, (elapsed s).toNat = (s.now.toNat + 2 ^ 32 - s.tMark.toNat) % 2 ^ 32

/-- `Classify` tests two inclusive unsigned ranges, the 0 range first; under the reset configuration the classes are
those listed in 40_decoder.md R122. -/
def Obligations.ClassifyFollowsTheRanges : Prop :=
  (∀ (s : State) (d : Word),
    (classify s d = .zero ↔ s.cfgBit0Min.toNat ≤ d.toNat ∧ d.toNat ≤ s.cfgBit0Max.toNat)
    ∧ (classify s d = .one ↔ ¬(s.cfgBit0Min.toNat ≤ d.toNat ∧ d.toNat ≤ s.cfgBit0Max.toNat)
      ∧ s.cfgBit1Min.toNat ≤ d.toNat ∧ d.toNat ≤ s.cfgBit1Max.toNat)
    ∧ (classify s d = .malformed ↔ ¬(s.cfgBit0Min.toNat ≤ d.toNat ∧ d.toNat ≤ s.cfgBit0Max.toNat)
      ∧ ¬(s.cfgBit1Min.toNat ≤ d.toNat ∧ d.toNat ≤ s.cfgBit1Max.toNat)))
  ∧ ∀ (s : State) (d : Word), SameConfig State.reset s →
    (d.toNat ≤ 39 → classify s d = .malformed) ∧ (40 ≤ d.toNat ∧ d.toNat ≤ 50 → classify s d = .zero)
    ∧ (51 ≤ d.toNat ∧ d.toNat ≤ 64 → classify s d = .malformed)
    ∧ (65 ≤ d.toNat ∧ d.toNat ≤ 75 → classify s d = .one) ∧ (76 ≤ d.toNat → classify s d = .malformed)

/-- `ShiftIn` shifts left by one with the new bit at bit 0, and after forty bits, whatever the register held, bit `i`
stands at bit `39 - i` (40_decoder.md R123). -/
def Obligations.FortyShiftsAssembleTheFrame : Prop :=
  (∀ (f : Frame) (b : Bool), (shiftIn f b).getLsbD 0 = b
    ∧ ∀ j, j < 39 → (shiftIn f b).getLsbD (j + 1) = f.getLsbD j)
  ∧ ∀ (f : Frame) (bits : List Bool), bits.length = 40 →
    ∀ i, i < 40 → (bits.foldl shiftIn f).getLsbD (39 - i) = bits[i]!

/-- `Validate` compares the integrity byte with the sum of the four other bytes modulo 256 (41_validator.md R180). -/
def Obligations.ValidateIsTheSumModulo256 : Prop :=
  ∀ b0 b1 b2 b3 b4 : Byte,
    (sum4 (b0 ++ b1 ++ b2 ++ b3 ++ b4)).toNat = (b0.toNat + b1.toNat + b2.toNat + b3.toNat) % 256
    ∧ (validate (b0 ++ b1 ++ b2 ++ b3 ++ b4) = true ↔
      (b0.toNat + b1.toNat + b2.toNat + b3.toNat) % 256 = b4.toNat)

/-- The properties of `Validate`: a matching integrity byte is valid; changing any one byte of a valid frame makes it
invalid; adding 1 to byte 0 and subtracting 1 from byte 1 keeps it, and so does swapping any two of bytes 0 to 3
(41_validator.md R182). -/
def Obligations.ValidateDetectsAnyOneByteChange : Prop :=
  ∀ f g : Frame,
    (frameByte f 4 = sum4 f → validate f = true)
    ∧ (validate f = true → ∀ j, j ≤ 4 → (∀ k, k ≤ 4 → k ≠ j → frameByte g k = frameByte f k) →
      frameByte g j ≠ frameByte f j → validate g = false)
    ∧ (validate f = true → frameByte g 0 = frameByte f 0 + 1 → frameByte g 1 = frameByte f 1 - 1 →
      (∀ k, 2 ≤ k → k ≤ 4 → frameByte g k = frameByte f k) → validate g = true)
    ∧ (validate f = true → ∀ i j, i ≤ 3 → j ≤ 3 → frameByte g i = frameByte f j → frameByte g j = frameByte f i →
      (∀ k, k ≤ 4 → k ≠ i → k ≠ j → frameByte g k = frameByte f k) → validate g = true)

/-- The state codes are those of 30_encoding.md R82 and the result codes 0 to 5 those of R83. That no result of the model
has a code above 5 is the model's choice: R83 says only that codes 6 to 15 are reserved and never produced, and leaving
them out of the type is log entry 6 (DESIGN CHOICE). -/
def Obligations.CodesAreTheTables : Prop :=
  [FsmState.idle, .startLow, .startRel, .hsWaitLow, .hsWaitHigh, .hsWaitData, .bitWaitHigh, .bitMeasure].map
      FsmState.code = [0, 1, 2, 3, 4, 5, 6, 7]
    ∧ [ResultCode.none, .ok, .checksumError, .noResponse, .timeout, .invalidPulse].map ResultCode.code
      = [0, 1, 2, 3, 4, 5]
    ∧ ∀ r : ResultCode, r.code.toNat ≤ 5

/-- The outputs are functions of the registered state: the line is driven, low, exactly in START_LOW
(10_state.md R35, R36). -/
def Obligations.OutputsFollowTheState : Prop :=
  ∀ s : State, (lineOe s = true ↔ s.state = .startLow) ∧ lineO s = false ∧ doneO s = s.done
    ∧ (busyO s = true ↔ s.state ≠ .idle)

/-! The state rules, one edge each. `busyEdge s` is what the edge does apart from the state rule. -/

/-- An idle SWPD samples neither the line nor the timestamp: with any operation but START, the edge does not depend on
them and SWPD stays idle with its outcome, its frame and its error registers (40_decoder.md R125). -/
def Obligations.IdleSamplesNothing : Prop :=
  ∀ (s : State) (now now' : Word) (line line' : Bool), s.state = .idle → isStart (fetch s) = false →
    step (s.withWire now line) = step (s.withWire now' line')
    ∧ (s.input.rst = false → ∃ t, step s = .next t ∧ t.state = .idle ∧ t.tMark = s.tMark ∧ t.shift = s.shift
      ∧ t.frame = s.frame ∧ t.frameValid = s.frameValid ∧ t.bitCnt = s.bitCnt ∧ t.result = s.result
      ∧ t.errBit = s.errBit ∧ t.errState = s.errState ∧ t.errDur = s.errDur)

/-- START_LOW and START_REL: dwell for the configured time, never looking at the line, then begin the next phase
(40_decoder.md R127, R128). -/
def Obligations.HostStartDwells : Prop :=
  ∀ s : State, s.input.rst = false →
    (s.state = .startLow → step s = .next
      (if s.cfgStartLow ≤ elapsed s then ((busyEdge s).withState .startRel).withMark s.now else busyEdge s))
    ∧ (s.state = .startRel → step s = .next
      (if s.cfgRelease ≤ elapsed s then ((busyEdge s).withState .hsWaitLow).withMark s.now else busyEdge s))

/-- The three handshake waits: the level first, then the timeout, which raises NoResponse with the state it was found
in (40_decoder.md R129 to R131). -/
def Obligations.HandshakeWaits : Prop :=
  ∀ s : State, s.input.rst = false →
    ∀ w ∈ [(FsmState.hsWaitLow, false, FsmState.hsWaitHigh), (.hsWaitHigh, true, .hsWaitData),
        (.hsWaitData, false, .bitWaitHigh)],
      s.state = w.1 → step s = .next
        (if s.line = w.2.1 then ((busyEdge s).withState w.2.2).withMark s.now
        else if s.cfgTimeout ≤ elapsed s then
          (((busyEdge s).withState .idle).withOutcome .noResponse true).withError 0 w.1 0
        else busyEdge s)

/-- BIT_WAIT_HIGH: the rise first, then the timeout, which raises Timeout with the bit's index (40_decoder.md R132). -/
def Obligations.BitWaitTakesTheRise : Prop :=
  ∀ s : State, s.input.rst = false → s.state = .bitWaitHigh →
    step s = .next
      (if s.line = true then ((busyEdge s).withState .bitMeasure).withMark s.now
      else if s.cfgTimeout ≤ elapsed s then
        (((busyEdge s).withState .idle).withOutcome .timeout true).withError s.bitCnt .bitWaitHigh 0
      else busyEdge s)

/-- BIT_MEASURE: the fall ends the measurement and gives InvalidPulse, a bit, or with the fortieth bit the frame and its
validation; a high that lasts to the timeout gives Timeout (40_decoder.md R133, R134). The counter at 63, which no
reachable state has, is left out: log entry 7. -/
def Obligations.BitMeasureClassifiesAtTheFall : Prop :=
  ∀ s : State, s.input.rst = false → s.state = .bitMeasure →
    (s.line = false → classify s (elapsed s) = .malformed → step s = .next
      ((((busyEdge s).withState .idle).withOutcome .invalidPulse true).withError s.bitCnt .bitMeasure (elapsed s)))
    ∧ (∀ b : Bool, s.line = false → classify s (elapsed s) = (if b then .one else .zero) → s.bitCnt ≠ 39 →
      s.bitCnt ≠ 63 → step s = .next
        ((((busyEdge s).withBits (shiftIn s.shift b) (s.bitCnt + 1)).withState .bitWaitHigh).withMark s.now))
    ∧ (∀ b : Bool, s.line = false → classify s (elapsed s) = (if b then .one else .zero) → s.bitCnt = 39 →
      step s = .next
        (((((busyEdge s).withBits (shiftIn s.shift b) 40).withFrame (shiftIn s.shift b) true).withOutcome
          (if validate (shiftIn s.shift b) then .ok else .checksumError) true).withState .idle))
    ∧ (s.line = true → s.cfgTimeout ≤ elapsed s → step s = .next
      ((((busyEdge s).withState .idle).withOutcome .timeout true).withError s.bitCnt .bitMeasure 0))
    ∧ (s.line = true → elapsed s < s.cfgTimeout → step s = .next (busyEdge s))

/-- The error latch at the edge that raises an error: the code, the bit, the state before the edge and the duration are
recorded, `done` is set, and frame, bit counter, assembly register, mark and configuration are kept
(60_exceptions.md R241). -/
def Obligations.ErrorLatchRecordsTheError : Prop :=
  ∀ (s : State) (e : DecodeError), s.input.rst = false → stateRule s = .fail e → ∃ t, step s = .next t
    ∧ t.state = .idle ∧ t.errState = s.state ∧ t.done = true
    ∧ t.frame = s.frame ∧ t.frameValid = s.frameValid ∧ t.bitCnt = s.bitCnt ∧ t.shift = s.shift ∧ t.tMark = s.tMark
    ∧ SameConfig s t ∧ lineOe t = false ∧ busy t = false
    ∧ (e = .noResponse → t.result.code = 3 ∧ t.errBit = 0 ∧ t.errDur = 0)
    ∧ (∀ n, e = .timeout n → t.result.code = 4 ∧ t.errBit = n ∧ t.errDur = 0 ∧ t.errBit = t.bitCnt)
    ∧ (∀ n d, e = .invalidPulse n d → t.result.code = 5 ∧ t.errBit = n ∧ t.errDur = d ∧ d = elapsed s
      ∧ t.errBit = t.bitCnt)
    ∧ (ReachableFacts s → t.frameValid = false ∧ t.frame = 0)

/-- The edges of the state machine without reset: one transition per edge along the protocol, IDLE left only by START,
`t_mark` taking `NOW` when a phase begins and kept otherwise (10_state.md R24, R26). -/
def Obligations.TransitionsFollowTheProtocol : Prop :=
  ∀ s t : State, s.input.rst = false → step s = .next t →
    (s.state, t.state) ∈
      [(FsmState.idle, FsmState.idle), (.idle, .startLow), (.startLow, .startLow), (.startLow, .startRel),
       (.startRel, .startRel), (.startRel, .hsWaitLow), (.hsWaitLow, .hsWaitLow), (.hsWaitLow, .hsWaitHigh),
       (.hsWaitLow, .idle), (.hsWaitHigh, .hsWaitHigh), (.hsWaitHigh, .hsWaitData), (.hsWaitHigh, .idle),
       (.hsWaitData, .hsWaitData), (.hsWaitData, .bitWaitHigh), (.hsWaitData, .idle), (.bitWaitHigh, .bitWaitHigh),
       (.bitWaitHigh, .bitMeasure), (.bitWaitHigh, .idle), (.bitMeasure, .bitMeasure), (.bitMeasure, .bitWaitHigh),
       (.bitMeasure, .idle)]
    ∧ (s.state = .idle → (t.state = .startLow ↔ isStart (fetch s) = true))
    ∧ (t.state ≠ s.state → t.state ≠ .idle → t.tMark = s.now)
    ∧ (t.state = s.state ∨ t.state = .idle → t.tMark = s.tMark)

/-- The line is released on every exit path: START_LOW is left only to START_REL or by reset, and every edge that ends
a decode cycle, also by reset, leaves the line released; it was released before it unless it is a reset
(40_decoder.md R135). -/
def Obligations.LineReleasedOnEveryExit : Prop :=
  ∀ s t : State, step s = .next t →
    (s.state = .startLow → t.state ≠ .startLow → t.state = .startRel ∨ (s.input.rst = true ∧ t.state = .idle))
    ∧ (s.state ≠ .idle → t.state = .idle → lineOe t = false ∧ (lineOe s = false ∨ s.input.rst = true))
    ∧ (s.input.rst = false → ∀ e, stateRule s = .fail e → lineOe s = false ∧ lineOe t = false)

/-- The frame and its flag change only at reset, at a START taken while idle, and at the commit of a fortieth bit; in
every state that meets the invariant, without a frame DATA and CHECK read 0, and no error leaves a frame; no slot shows
the assembly register (40_decoder.md R136). -/
def Obligations.FrameChangesOnlyAtStartCommitAndReset : Prop :=
  ∀ s t : State, step s = .next t →
    ((t.frame = s.frame ∧ t.frameValid = s.frameValid)
      ∨ (s.input.rst = true ∧ t.frame = 0 ∧ t.frameValid = false)
      ∨ (s.state = .idle ∧ isStart (fetch s) = true ∧ t.frame = 0 ∧ t.frameValid = false)
      ∨ (s.state = .bitMeasure ∧ s.bitCnt = 39 ∧ s.line = false ∧ t.frameValid = true ∧ t.state = .idle
        ∧ ∃ b : Bool, classify s (elapsed s) = (if b then .one else .zero) ∧ t.frame = shiftIn s.shift b))
    ∧ (ReachableFacts s → s.frameValid = false → dataValue s = 0 ∧ checkValue s = 0)
    ∧ (ReachableFacts s → s.input.rst = false → (∃ e, stateRule s = .fail e) →
      t.frameValid = false ∧ dataValue t = 0 ∧ checkValue t = 0)
    ∧ ∀ (slot : Slot) (f : Frame), readValue slot (t.withBits f t.bitCnt) = readValue slot t

/-- `done` rises only at the edge at which a decode cycle ends, and falls only at CLEAR, at a START taken while idle, and
at reset (60_exceptions.md R252; 10_state.md R30). -/
def Obligations.DoneRisesAtCompletionAndFallsWhenAcknowledged : Prop :=
  ∀ s t : State, step s = .next t →
    (s.done = false → t.done = true → s.input.rst = false ∧ s.state ≠ .idle ∧ t.state = .idle ∧ t.result ≠ .none)
    ∧ (s.done = true → t.done = false →
      s.input.rst = true ∨ isClear (fetch s) = true ∨ (s.state = .idle ∧ isStart (fetch s) = true))
    ∧ (s.input.rst = false → (stateRule s).completes = true → t.done = true ∧ doneO t = true)
    ∧ (s.input.rst = true → t.done = false)
    ∧ (s.state = .idle → isClear (fetch s) = true ∨ isStart (fetch s) = true → t.done = false)

/-- From a START until the end of its decode cycle RESULT reads NONE and DATA, CHECK, ERR_INFO and ERR_DUR read 0, in
every state that meets the two invariants (70_reset_and_hazards.md R277). -/
def Obligations.BusyShowsNoOutcome : Prop :=
  ∀ s : State, ReachableFacts s → OutcomeRecord s → s.state ≠ .idle →
    (statusValue s).extractLsb' 12 4 = 0 ∧ (statusValue s).getLsbD 1 = false ∧ (statusValue s).getLsbD 2 = false
    ∧ dataValue s = 0 ∧ checkValue s = 0 ∧ errInfoValue s = 0 ∧ errDurValue s = 0

/-! Invariants. -/

/-- Every step keeps the facts (a) to (f) of 10_state.md R38. -/
def Obligations.StepKeepsReachableFacts : Prop :=
  ∀ s t : State, ReachableFacts s → step s = .next t → ReachableFacts t

/-- Every step keeps, beside those facts, the record the outcome registers hold (10_state.md R31, R32;
60_exceptions.md R240). -/
def Obligations.StepKeepsTheOutcomeRecord : Prop :=
  ∀ s t : State, ReachableFacts s → OutcomeRecord s → step s = .next t → ReachableFacts t ∧ OutcomeRecord t

/-- The state after reset meets both invariants (10_state.md R38, R39). -/
def Obligations.ResetMeetsTheInvariants : Prop :=
  ReachableFacts State.reset ∧ OutcomeRecord State.reset

/-- The facts (a) to (f) hold in every state reachable from reset, after any number of edges and under any schedule of
inputs (10_state.md R38). -/
def Obligations.EveryReachableStateMeetsTheFacts : Prop :=
  ∀ (n k : Nat) (schedule : List EdgeInput) (t : State),
    runEdges n (State.reset.withEnv schedule k) = .next t → ReachableFacts t

/-! Runs of edges. -/

/-- SWPD never starts a decode cycle by itself: over any number of edges without START and reset it stays idle with its
outcome (60_exceptions.md R247). -/
def Obligations.NoCycleWithoutStart : Prop :=
  ∀ (n : Nat) (s : State), s.state = .idle → n ≤ s.inputs.length →
    (∀ e ∈ s.inputs.take n, e.rst = false ∧ isStart (decode (hostWord e)) = false) →
    ∃ t, runEdges n s = .next t ∧ t.state = .idle ∧ lineOe t = false ∧ t.result = s.result ∧ t.frame = s.frame
      ∧ t.frameValid = s.frameValid ∧ t.errBit = s.errBit ∧ t.errState = s.errState ∧ t.errDur = s.errDur

/-- If `now_us` stops below a phase's bound and the awaited level does not come, SWPD stays in its state however many
edges pass: in START_LOW it keeps the line low, and in a wait no timeout fires (70_reset_and_hazards.md R278;
93_implementation_defined.md U5). -/
def Obligations.StoppedTimestampHoldsThePhase : Prop :=
  ∀ (n : Nat) (s : State) (m : Word), n ≤ s.inputs.length →
    (∀ e ∈ s.inputs.take n, e.rst = false ∧ e.nowUs = m) →
    (s.state = .startLow → m - s.tMark < s.cfgStartLow →
      ∃ t, runEdges n s = .next t ∧ t.state = .startLow ∧ lineOe t = true ∧ t.tMark = s.tMark)
    ∧ (s.state = .startRel → m - s.tMark < s.cfgRelease →
      ∃ t, runEdges n s = .next t ∧ t.state = .startRel ∧ t.tMark = s.tMark)
    ∧ (∀ w ∈ [(FsmState.hsWaitLow, true), (.hsWaitHigh, false), (.hsWaitData, true), (.bitWaitHigh, false),
        (.bitMeasure, true)], s.state = w.1 → (∀ e ∈ s.inputs.take n, e.lineI = w.2) → m - s.tMark < s.cfgTimeout →
      ∃ t, runEdges n s = .next t ∧ t.state = w.1 ∧ t.tMark = s.tMark ∧ t.bitCnt = s.bitCnt)

/-- One data bit, whatever the host does meanwhile: a timely pulse whose width classifies as `b`, taken from
BIT_WAIT_HIGH before bit 39, shifts `b` in and begins the next bit's wait at its fall (40_decoder.md R132, R133). -/
def Obligations.TimelyPulseIsCaptured : Prop :=
  ∀ (s : State) (p : Pulse) (b : Bool) (rest : List EdgeInput), s.state = .bitWaitHigh → s.bitCnt.toNat < 39 →
    s.inputs = p.edges ++ rest → p.Timely s.cfgTimeout s.tMark → classify s p.width = (if b then .one else .zero) →
    ∃ t, runEdges p.edges.length s = .next t ∧ t.state = .bitWaitHigh ∧ t.bitCnt = s.bitCnt + 1
      ∧ t.shift = shiftIn s.shift b ∧ t.tMark = p.fall.nowUs ∧ t.inputs = rest ∧ SameConfig s t

/-- A train of forty timely pulses, whatever the host does meanwhile, is reconstructed exactly: from BIT_WAIT_HIGH with
no bit captured, the last fall commits the frame whose bit `39 - i` is the bit sent as number `i`, with the result of
its validation (the source's first property, 95_test_vectors.md S1; 40_decoder.md R132 to R134; 30_encoding.md R88). -/
def Obligations.PulseTrainIsReconstructed : Prop :=
  ∀ (s : State) (ps : List Pulse) (bits : List Bool) (rest : List EdgeInput), s.state = .bitWaitHigh → s.bitCnt = 0 →
    bits.length = 40 → s.inputs = ps.flatMap Pulse.edges ++ rest → Sends s s.tMark ps bits →
    ∃ t, runEdges (ps.flatMap Pulse.edges).length s = .next t ∧ t.state = .idle ∧ t.done = true ∧ t.frameValid = true
      ∧ t.bitCnt = 40 ∧ (∀ i, i < 40 → t.frame.getLsbD (39 - i) = bits[i]!)
      ∧ t.result = (if validate t.frame then .ok else .checksumError) ∧ t.inputs = rest ∧ SameConfig s t

/-- If `now_us` advances by at most `Δ` at every edge and the three bounds are at most `2^32 - 1 - Δ`, every phase is
left within its bound plus `Δ`, and a decode cycle ends, with `done` set, within
`cfg_start_low + cfg_release + 83 * cfg_timeout + 85 * Δ` of its START, whatever the sensor and the host do; for the
reset configuration and `Δ = 1` that is 101 115 (40_decoder.md R137). -/
def Obligations.DecodeCycleEndsWithinItsBound : Prop :=
  (∀ (Δ : Nat) (s : State), 1 ≤ Δ → s.state ≠ .idle → BoundsFit Δ s → (∀ e ∈ s.inputs, e.rst = false) →
    Paced Δ s.tMark s.inputs → phaseBound s + Δ ≤ elapsedOver s.tMark s.inputs →
    ∃ k t, k ≤ s.inputs.length ∧ runEdges k s = .next t ∧ t.state ≠ s.state
      ∧ elapsedOver s.tMark (s.inputs.take k) ≤ phaseBound s + Δ)
  ∧ (∀ (Δ : Nat) (s : State), 1 ≤ Δ → s.state = .idle → s.input.rst = false → isStart (fetch s) = true →
    BoundsFit Δ s → (∀ e ∈ s.inputs.tail, e.rst = false) → Paced Δ s.now s.inputs.tail →
    cycleBound Δ s ≤ elapsedOver s.now s.inputs.tail →
    ∃ k t, k ≤ s.inputs.tail.length ∧ runEdges (k + 1) s = .next t ∧ t.state = .idle ∧ t.done = true
      ∧ elapsedOver s.now (s.inputs.tail.take k) ≤ cycleBound Δ s)
  ∧ cycleBound 1 State.reset = 101115
end

