-- ==== Sys2Proof/Laws/Decode.lean ====
section
/-! SUPPORT. The fields of an encoded host operation word. -/

namespace Sys2Proof.Laws

/-- Concatenation as arithmetic: `a` in the more significant position (00_scope.md R7). -/
theorem toNat_append_eq_add {m n : Nat} (x : BitVec m) (y : BitVec n) :
    (x ++ y).toNat = x.toNat * 2 ^ n + y.toNat := by
  rw [BitVec.toNat_append, ← Nat.shiftLeft_add_eq_or_of_lt y.isLt, Nat.shiftLeft_eq]

/-- The value of an encoded word. -/
theorem toNat_hostOp (w : Bool) (slot : Slot) (d : Word) :
    (hostOp w slot d).toNat = w.toNat * 2 ^ 38 + slot.toNat * 2 ^ 34 + d.toNat := by
  have h : (hostOp w slot d).toNat = (BitVec.ofBool w ++ slot ++ 0#2 ++ d).toNat := rfl
  rw [h]
  simp only [toNat_append_eq_add, BitVec.toNat_ofBool, BitVec.toNat_ofNat]
  omega

/-- A field of a word as arithmetic. -/
theorem toNat_field {n : Nat} (h : BitVec n) (at_ len : Nat) :
    (h.extractLsb' at_ len).toNat = h.toNat / 2 ^ at_ % 2 ^ len := by
  rw [BitVec.extractLsb'_toNat, Nat.shiftRight_eq_div_pow]

/-- `hostOp` puts its three parts in the fields of 30_encoding.md R80, and 0 in the ignored address bits. -/
theorem hostOp_fields (w : Bool) (slot : Slot) (d : Word) :
    opWrite (hostOp w slot d) = w ∧ opSlot (hostOp w slot d) = slot ∧ opData (hostOp w slot d) = d
      ∧ (hostOp w slot d).extractLsb' 32 2 = 0 := by
  have hs := slot.isLt
  have hd := d.isLt
  have hw : w.toNat ≤ 1 := Bool.toNat_le w
  refine ⟨?_, ?_, ?_, ?_⟩
  · rw [opWrite, BitVec.getLsbD, Nat.testBit_eq_decide_div_mod_eq, toNat_hostOp]
    cases w <;> simp <;> omega
  · apply BitVec.eq_of_toNat_eq
    rw [opSlot, toNat_field, toNat_hostOp]
    omega
  · apply BitVec.eq_of_toNat_eq
    rw [opData, toNat_field, toNat_hostOp]
    omega
  · apply BitVec.eq_of_toNat_eq
    rw [toNat_field, toNat_hostOp]
    have h0 : (0 : BitVec 2).toNat = 0 := rfl
    omega

end Sys2Proof.Laws
end

