-- ==== Sys2Proof/Laws/State.lean ====
section
/-! SUPPORT. What each named update of the state does to each field: one lemma per field per update, so that no later
proof unfolds a record update. -/

namespace Sys2Proof.Machine

@[simp] theorem State.withState_state (s : State) (v : FsmState) : (s.withState v).state = v := rfl
@[simp] theorem State.withState_tMark (s : State) (v : FsmState) : (s.withState v).tMark = s.tMark := rfl
@[simp] theorem State.withState_shift (s : State) (v : FsmState) : (s.withState v).shift = s.shift := rfl
@[simp] theorem State.withState_frame (s : State) (v : FsmState) : (s.withState v).frame = s.frame := rfl
@[simp] theorem State.withState_frameValid (s : State) (v : FsmState) : (s.withState v).frameValid = s.frameValid := rfl
@[simp] theorem State.withState_bitCnt (s : State) (v : FsmState) : (s.withState v).bitCnt = s.bitCnt := rfl
@[simp] theorem State.withState_done (s : State) (v : FsmState) : (s.withState v).done = s.done := rfl
@[simp] theorem State.withState_result (s : State) (v : FsmState) : (s.withState v).result = s.result := rfl
@[simp] theorem State.withState_errBit (s : State) (v : FsmState) : (s.withState v).errBit = s.errBit := rfl
@[simp] theorem State.withState_errState (s : State) (v : FsmState) : (s.withState v).errState = s.errState := rfl
@[simp] theorem State.withState_errDur (s : State) (v : FsmState) : (s.withState v).errDur = s.errDur := rfl
@[simp] theorem State.withState_cfgTimeout (s : State) (v : FsmState) : (s.withState v).cfgTimeout = s.cfgTimeout := rfl
@[simp] theorem State.withState_cfgStartLow (s : State) (v : FsmState) : (s.withState v).cfgStartLow = s.cfgStartLow := rfl
@[simp] theorem State.withState_cfgRelease (s : State) (v : FsmState) : (s.withState v).cfgRelease = s.cfgRelease := rfl
@[simp] theorem State.withState_cfgBit0Min (s : State) (v : FsmState) : (s.withState v).cfgBit0Min = s.cfgBit0Min := rfl
@[simp] theorem State.withState_cfgBit0Max (s : State) (v : FsmState) : (s.withState v).cfgBit0Max = s.cfgBit0Max := rfl
@[simp] theorem State.withState_cfgBit1Min (s : State) (v : FsmState) : (s.withState v).cfgBit1Min = s.cfgBit1Min := rfl
@[simp] theorem State.withState_cfgBit1Max (s : State) (v : FsmState) : (s.withState v).cfgBit1Max = s.cfgBit1Max := rfl
@[simp] theorem State.withState_busRdata (s : State) (v : FsmState) : (s.withState v).busRdata = s.busRdata := rfl
@[simp] theorem State.withState_inputs (s : State) (v : FsmState) : (s.withState v).inputs = s.inputs := rfl
@[simp] theorem State.withState_edge (s : State) (v : FsmState) : (s.withState v).edge = s.edge := rfl

@[simp] theorem State.withMark_state (s : State) (v : Word) : (s.withMark v).state = s.state := rfl
@[simp] theorem State.withMark_tMark (s : State) (v : Word) : (s.withMark v).tMark = v := rfl
@[simp] theorem State.withMark_shift (s : State) (v : Word) : (s.withMark v).shift = s.shift := rfl
@[simp] theorem State.withMark_frame (s : State) (v : Word) : (s.withMark v).frame = s.frame := rfl
@[simp] theorem State.withMark_frameValid (s : State) (v : Word) : (s.withMark v).frameValid = s.frameValid := rfl
@[simp] theorem State.withMark_bitCnt (s : State) (v : Word) : (s.withMark v).bitCnt = s.bitCnt := rfl
@[simp] theorem State.withMark_done (s : State) (v : Word) : (s.withMark v).done = s.done := rfl
@[simp] theorem State.withMark_result (s : State) (v : Word) : (s.withMark v).result = s.result := rfl
@[simp] theorem State.withMark_errBit (s : State) (v : Word) : (s.withMark v).errBit = s.errBit := rfl
@[simp] theorem State.withMark_errState (s : State) (v : Word) : (s.withMark v).errState = s.errState := rfl
@[simp] theorem State.withMark_errDur (s : State) (v : Word) : (s.withMark v).errDur = s.errDur := rfl
@[simp] theorem State.withMark_cfgTimeout (s : State) (v : Word) : (s.withMark v).cfgTimeout = s.cfgTimeout := rfl
@[simp] theorem State.withMark_cfgStartLow (s : State) (v : Word) : (s.withMark v).cfgStartLow = s.cfgStartLow := rfl
@[simp] theorem State.withMark_cfgRelease (s : State) (v : Word) : (s.withMark v).cfgRelease = s.cfgRelease := rfl
@[simp] theorem State.withMark_cfgBit0Min (s : State) (v : Word) : (s.withMark v).cfgBit0Min = s.cfgBit0Min := rfl
@[simp] theorem State.withMark_cfgBit0Max (s : State) (v : Word) : (s.withMark v).cfgBit0Max = s.cfgBit0Max := rfl
@[simp] theorem State.withMark_cfgBit1Min (s : State) (v : Word) : (s.withMark v).cfgBit1Min = s.cfgBit1Min := rfl
@[simp] theorem State.withMark_cfgBit1Max (s : State) (v : Word) : (s.withMark v).cfgBit1Max = s.cfgBit1Max := rfl
@[simp] theorem State.withMark_busRdata (s : State) (v : Word) : (s.withMark v).busRdata = s.busRdata := rfl
@[simp] theorem State.withMark_inputs (s : State) (v : Word) : (s.withMark v).inputs = s.inputs := rfl
@[simp] theorem State.withMark_edge (s : State) (v : Word) : (s.withMark v).edge = s.edge := rfl

@[simp] theorem State.withBits_state (s : State) (f : Frame) (n : BitVec 6) : (s.withBits f n).state = s.state := rfl
@[simp] theorem State.withBits_tMark (s : State) (f : Frame) (n : BitVec 6) : (s.withBits f n).tMark = s.tMark := rfl
@[simp] theorem State.withBits_shift (s : State) (f : Frame) (n : BitVec 6) : (s.withBits f n).shift = f := rfl
@[simp] theorem State.withBits_frame (s : State) (f : Frame) (n : BitVec 6) : (s.withBits f n).frame = s.frame := rfl
@[simp] theorem State.withBits_frameValid (s : State) (f : Frame) (n : BitVec 6) : (s.withBits f n).frameValid = s.frameValid := rfl
@[simp] theorem State.withBits_bitCnt (s : State) (f : Frame) (n : BitVec 6) : (s.withBits f n).bitCnt = n := rfl
@[simp] theorem State.withBits_done (s : State) (f : Frame) (n : BitVec 6) : (s.withBits f n).done = s.done := rfl
@[simp] theorem State.withBits_result (s : State) (f : Frame) (n : BitVec 6) : (s.withBits f n).result = s.result := rfl
@[simp] theorem State.withBits_errBit (s : State) (f : Frame) (n : BitVec 6) : (s.withBits f n).errBit = s.errBit := rfl
@[simp] theorem State.withBits_errState (s : State) (f : Frame) (n : BitVec 6) : (s.withBits f n).errState = s.errState := rfl
@[simp] theorem State.withBits_errDur (s : State) (f : Frame) (n : BitVec 6) : (s.withBits f n).errDur = s.errDur := rfl
@[simp] theorem State.withBits_cfgTimeout (s : State) (f : Frame) (n : BitVec 6) : (s.withBits f n).cfgTimeout = s.cfgTimeout := rfl
@[simp] theorem State.withBits_cfgStartLow (s : State) (f : Frame) (n : BitVec 6) : (s.withBits f n).cfgStartLow = s.cfgStartLow := rfl
@[simp] theorem State.withBits_cfgRelease (s : State) (f : Frame) (n : BitVec 6) : (s.withBits f n).cfgRelease = s.cfgRelease := rfl
@[simp] theorem State.withBits_cfgBit0Min (s : State) (f : Frame) (n : BitVec 6) : (s.withBits f n).cfgBit0Min = s.cfgBit0Min := rfl
@[simp] theorem State.withBits_cfgBit0Max (s : State) (f : Frame) (n : BitVec 6) : (s.withBits f n).cfgBit0Max = s.cfgBit0Max := rfl
@[simp] theorem State.withBits_cfgBit1Min (s : State) (f : Frame) (n : BitVec 6) : (s.withBits f n).cfgBit1Min = s.cfgBit1Min := rfl
@[simp] theorem State.withBits_cfgBit1Max (s : State) (f : Frame) (n : BitVec 6) : (s.withBits f n).cfgBit1Max = s.cfgBit1Max := rfl
@[simp] theorem State.withBits_busRdata (s : State) (f : Frame) (n : BitVec 6) : (s.withBits f n).busRdata = s.busRdata := rfl
@[simp] theorem State.withBits_inputs (s : State) (f : Frame) (n : BitVec 6) : (s.withBits f n).inputs = s.inputs := rfl
@[simp] theorem State.withBits_edge (s : State) (f : Frame) (n : BitVec 6) : (s.withBits f n).edge = s.edge := rfl

@[simp] theorem State.withFrame_state (s : State) (f : Frame) (v : Bool) : (s.withFrame f v).state = s.state := rfl
@[simp] theorem State.withFrame_tMark (s : State) (f : Frame) (v : Bool) : (s.withFrame f v).tMark = s.tMark := rfl
@[simp] theorem State.withFrame_shift (s : State) (f : Frame) (v : Bool) : (s.withFrame f v).shift = s.shift := rfl
@[simp] theorem State.withFrame_frame (s : State) (f : Frame) (v : Bool) : (s.withFrame f v).frame = f := rfl
@[simp] theorem State.withFrame_frameValid (s : State) (f : Frame) (v : Bool) : (s.withFrame f v).frameValid = v := rfl
@[simp] theorem State.withFrame_bitCnt (s : State) (f : Frame) (v : Bool) : (s.withFrame f v).bitCnt = s.bitCnt := rfl
@[simp] theorem State.withFrame_done (s : State) (f : Frame) (v : Bool) : (s.withFrame f v).done = s.done := rfl
@[simp] theorem State.withFrame_result (s : State) (f : Frame) (v : Bool) : (s.withFrame f v).result = s.result := rfl
@[simp] theorem State.withFrame_errBit (s : State) (f : Frame) (v : Bool) : (s.withFrame f v).errBit = s.errBit := rfl
@[simp] theorem State.withFrame_errState (s : State) (f : Frame) (v : Bool) : (s.withFrame f v).errState = s.errState := rfl
@[simp] theorem State.withFrame_errDur (s : State) (f : Frame) (v : Bool) : (s.withFrame f v).errDur = s.errDur := rfl
@[simp] theorem State.withFrame_cfgTimeout (s : State) (f : Frame) (v : Bool) : (s.withFrame f v).cfgTimeout = s.cfgTimeout := rfl
@[simp] theorem State.withFrame_cfgStartLow (s : State) (f : Frame) (v : Bool) : (s.withFrame f v).cfgStartLow = s.cfgStartLow := rfl
@[simp] theorem State.withFrame_cfgRelease (s : State) (f : Frame) (v : Bool) : (s.withFrame f v).cfgRelease = s.cfgRelease := rfl
@[simp] theorem State.withFrame_cfgBit0Min (s : State) (f : Frame) (v : Bool) : (s.withFrame f v).cfgBit0Min = s.cfgBit0Min := rfl
@[simp] theorem State.withFrame_cfgBit0Max (s : State) (f : Frame) (v : Bool) : (s.withFrame f v).cfgBit0Max = s.cfgBit0Max := rfl
@[simp] theorem State.withFrame_cfgBit1Min (s : State) (f : Frame) (v : Bool) : (s.withFrame f v).cfgBit1Min = s.cfgBit1Min := rfl
@[simp] theorem State.withFrame_cfgBit1Max (s : State) (f : Frame) (v : Bool) : (s.withFrame f v).cfgBit1Max = s.cfgBit1Max := rfl
@[simp] theorem State.withFrame_busRdata (s : State) (f : Frame) (v : Bool) : (s.withFrame f v).busRdata = s.busRdata := rfl
@[simp] theorem State.withFrame_inputs (s : State) (f : Frame) (v : Bool) : (s.withFrame f v).inputs = s.inputs := rfl
@[simp] theorem State.withFrame_edge (s : State) (f : Frame) (v : Bool) : (s.withFrame f v).edge = s.edge := rfl

@[simp] theorem State.withOutcome_state (s : State) (r : ResultCode) (v : Bool) : (s.withOutcome r v).state = s.state := rfl
@[simp] theorem State.withOutcome_tMark (s : State) (r : ResultCode) (v : Bool) : (s.withOutcome r v).tMark = s.tMark := rfl
@[simp] theorem State.withOutcome_shift (s : State) (r : ResultCode) (v : Bool) : (s.withOutcome r v).shift = s.shift := rfl
@[simp] theorem State.withOutcome_frame (s : State) (r : ResultCode) (v : Bool) : (s.withOutcome r v).frame = s.frame := rfl
@[simp] theorem State.withOutcome_frameValid (s : State) (r : ResultCode) (v : Bool) : (s.withOutcome r v).frameValid = s.frameValid := rfl
@[simp] theorem State.withOutcome_bitCnt (s : State) (r : ResultCode) (v : Bool) : (s.withOutcome r v).bitCnt = s.bitCnt := rfl
@[simp] theorem State.withOutcome_done (s : State) (r : ResultCode) (v : Bool) : (s.withOutcome r v).done = v := rfl
@[simp] theorem State.withOutcome_result (s : State) (r : ResultCode) (v : Bool) : (s.withOutcome r v).result = r := rfl
@[simp] theorem State.withOutcome_errBit (s : State) (r : ResultCode) (v : Bool) : (s.withOutcome r v).errBit = s.errBit := rfl
@[simp] theorem State.withOutcome_errState (s : State) (r : ResultCode) (v : Bool) : (s.withOutcome r v).errState = s.errState := rfl
@[simp] theorem State.withOutcome_errDur (s : State) (r : ResultCode) (v : Bool) : (s.withOutcome r v).errDur = s.errDur := rfl
@[simp] theorem State.withOutcome_cfgTimeout (s : State) (r : ResultCode) (v : Bool) : (s.withOutcome r v).cfgTimeout = s.cfgTimeout := rfl
@[simp] theorem State.withOutcome_cfgStartLow (s : State) (r : ResultCode) (v : Bool) : (s.withOutcome r v).cfgStartLow = s.cfgStartLow := rfl
@[simp] theorem State.withOutcome_cfgRelease (s : State) (r : ResultCode) (v : Bool) : (s.withOutcome r v).cfgRelease = s.cfgRelease := rfl
@[simp] theorem State.withOutcome_cfgBit0Min (s : State) (r : ResultCode) (v : Bool) : (s.withOutcome r v).cfgBit0Min = s.cfgBit0Min := rfl
@[simp] theorem State.withOutcome_cfgBit0Max (s : State) (r : ResultCode) (v : Bool) : (s.withOutcome r v).cfgBit0Max = s.cfgBit0Max := rfl
@[simp] theorem State.withOutcome_cfgBit1Min (s : State) (r : ResultCode) (v : Bool) : (s.withOutcome r v).cfgBit1Min = s.cfgBit1Min := rfl
@[simp] theorem State.withOutcome_cfgBit1Max (s : State) (r : ResultCode) (v : Bool) : (s.withOutcome r v).cfgBit1Max = s.cfgBit1Max := rfl
@[simp] theorem State.withOutcome_busRdata (s : State) (r : ResultCode) (v : Bool) : (s.withOutcome r v).busRdata = s.busRdata := rfl
@[simp] theorem State.withOutcome_inputs (s : State) (r : ResultCode) (v : Bool) : (s.withOutcome r v).inputs = s.inputs := rfl
@[simp] theorem State.withOutcome_edge (s : State) (r : ResultCode) (v : Bool) : (s.withOutcome r v).edge = s.edge := rfl

@[simp] theorem State.withError_state (s : State) (n : BitVec 6) (q : FsmState) (d : Word) : (s.withError n q d).state = s.state := rfl
@[simp] theorem State.withError_tMark (s : State) (n : BitVec 6) (q : FsmState) (d : Word) : (s.withError n q d).tMark = s.tMark := rfl
@[simp] theorem State.withError_shift (s : State) (n : BitVec 6) (q : FsmState) (d : Word) : (s.withError n q d).shift = s.shift := rfl
@[simp] theorem State.withError_frame (s : State) (n : BitVec 6) (q : FsmState) (d : Word) : (s.withError n q d).frame = s.frame := rfl
@[simp] theorem State.withError_frameValid (s : State) (n : BitVec 6) (q : FsmState) (d : Word) : (s.withError n q d).frameValid = s.frameValid := rfl
@[simp] theorem State.withError_bitCnt (s : State) (n : BitVec 6) (q : FsmState) (d : Word) : (s.withError n q d).bitCnt = s.bitCnt := rfl
@[simp] theorem State.withError_done (s : State) (n : BitVec 6) (q : FsmState) (d : Word) : (s.withError n q d).done = s.done := rfl
@[simp] theorem State.withError_result (s : State) (n : BitVec 6) (q : FsmState) (d : Word) : (s.withError n q d).result = s.result := rfl
@[simp] theorem State.withError_errBit (s : State) (n : BitVec 6) (q : FsmState) (d : Word) : (s.withError n q d).errBit = n := rfl
@[simp] theorem State.withError_errState (s : State) (n : BitVec 6) (q : FsmState) (d : Word) : (s.withError n q d).errState = q := rfl
@[simp] theorem State.withError_errDur (s : State) (n : BitVec 6) (q : FsmState) (d : Word) : (s.withError n q d).errDur = d := rfl
@[simp] theorem State.withError_cfgTimeout (s : State) (n : BitVec 6) (q : FsmState) (d : Word) : (s.withError n q d).cfgTimeout = s.cfgTimeout := rfl
@[simp] theorem State.withError_cfgStartLow (s : State) (n : BitVec 6) (q : FsmState) (d : Word) : (s.withError n q d).cfgStartLow = s.cfgStartLow := rfl
@[simp] theorem State.withError_cfgRelease (s : State) (n : BitVec 6) (q : FsmState) (d : Word) : (s.withError n q d).cfgRelease = s.cfgRelease := rfl
@[simp] theorem State.withError_cfgBit0Min (s : State) (n : BitVec 6) (q : FsmState) (d : Word) : (s.withError n q d).cfgBit0Min = s.cfgBit0Min := rfl
@[simp] theorem State.withError_cfgBit0Max (s : State) (n : BitVec 6) (q : FsmState) (d : Word) : (s.withError n q d).cfgBit0Max = s.cfgBit0Max := rfl
@[simp] theorem State.withError_cfgBit1Min (s : State) (n : BitVec 6) (q : FsmState) (d : Word) : (s.withError n q d).cfgBit1Min = s.cfgBit1Min := rfl
@[simp] theorem State.withError_cfgBit1Max (s : State) (n : BitVec 6) (q : FsmState) (d : Word) : (s.withError n q d).cfgBit1Max = s.cfgBit1Max := rfl
@[simp] theorem State.withError_busRdata (s : State) (n : BitVec 6) (q : FsmState) (d : Word) : (s.withError n q d).busRdata = s.busRdata := rfl
@[simp] theorem State.withError_inputs (s : State) (n : BitVec 6) (q : FsmState) (d : Word) : (s.withError n q d).inputs = s.inputs := rfl
@[simp] theorem State.withError_edge (s : State) (n : BitVec 6) (q : FsmState) (d : Word) : (s.withError n q d).edge = s.edge := rfl

@[simp] theorem State.withDone_state (s : State) (v : Bool) : (s.withDone v).state = s.state := rfl
@[simp] theorem State.withDone_tMark (s : State) (v : Bool) : (s.withDone v).tMark = s.tMark := rfl
@[simp] theorem State.withDone_shift (s : State) (v : Bool) : (s.withDone v).shift = s.shift := rfl
@[simp] theorem State.withDone_frame (s : State) (v : Bool) : (s.withDone v).frame = s.frame := rfl
@[simp] theorem State.withDone_frameValid (s : State) (v : Bool) : (s.withDone v).frameValid = s.frameValid := rfl
@[simp] theorem State.withDone_bitCnt (s : State) (v : Bool) : (s.withDone v).bitCnt = s.bitCnt := rfl
@[simp] theorem State.withDone_done (s : State) (v : Bool) : (s.withDone v).done = v := rfl
@[simp] theorem State.withDone_result (s : State) (v : Bool) : (s.withDone v).result = s.result := rfl
@[simp] theorem State.withDone_errBit (s : State) (v : Bool) : (s.withDone v).errBit = s.errBit := rfl
@[simp] theorem State.withDone_errState (s : State) (v : Bool) : (s.withDone v).errState = s.errState := rfl
@[simp] theorem State.withDone_errDur (s : State) (v : Bool) : (s.withDone v).errDur = s.errDur := rfl
@[simp] theorem State.withDone_cfgTimeout (s : State) (v : Bool) : (s.withDone v).cfgTimeout = s.cfgTimeout := rfl
@[simp] theorem State.withDone_cfgStartLow (s : State) (v : Bool) : (s.withDone v).cfgStartLow = s.cfgStartLow := rfl
@[simp] theorem State.withDone_cfgRelease (s : State) (v : Bool) : (s.withDone v).cfgRelease = s.cfgRelease := rfl
@[simp] theorem State.withDone_cfgBit0Min (s : State) (v : Bool) : (s.withDone v).cfgBit0Min = s.cfgBit0Min := rfl
@[simp] theorem State.withDone_cfgBit0Max (s : State) (v : Bool) : (s.withDone v).cfgBit0Max = s.cfgBit0Max := rfl
@[simp] theorem State.withDone_cfgBit1Min (s : State) (v : Bool) : (s.withDone v).cfgBit1Min = s.cfgBit1Min := rfl
@[simp] theorem State.withDone_cfgBit1Max (s : State) (v : Bool) : (s.withDone v).cfgBit1Max = s.cfgBit1Max := rfl
@[simp] theorem State.withDone_busRdata (s : State) (v : Bool) : (s.withDone v).busRdata = s.busRdata := rfl
@[simp] theorem State.withDone_inputs (s : State) (v : Bool) : (s.withDone v).inputs = s.inputs := rfl
@[simp] theorem State.withDone_edge (s : State) (v : Bool) : (s.withDone v).edge = s.edge := rfl

@[simp] theorem State.withCfgTimeout_state (s : State) (v : Word) : (s.withCfgTimeout v).state = s.state := rfl
@[simp] theorem State.withCfgTimeout_tMark (s : State) (v : Word) : (s.withCfgTimeout v).tMark = s.tMark := rfl
@[simp] theorem State.withCfgTimeout_shift (s : State) (v : Word) : (s.withCfgTimeout v).shift = s.shift := rfl
@[simp] theorem State.withCfgTimeout_frame (s : State) (v : Word) : (s.withCfgTimeout v).frame = s.frame := rfl
@[simp] theorem State.withCfgTimeout_frameValid (s : State) (v : Word) : (s.withCfgTimeout v).frameValid = s.frameValid := rfl
@[simp] theorem State.withCfgTimeout_bitCnt (s : State) (v : Word) : (s.withCfgTimeout v).bitCnt = s.bitCnt := rfl
@[simp] theorem State.withCfgTimeout_done (s : State) (v : Word) : (s.withCfgTimeout v).done = s.done := rfl
@[simp] theorem State.withCfgTimeout_result (s : State) (v : Word) : (s.withCfgTimeout v).result = s.result := rfl
@[simp] theorem State.withCfgTimeout_errBit (s : State) (v : Word) : (s.withCfgTimeout v).errBit = s.errBit := rfl
@[simp] theorem State.withCfgTimeout_errState (s : State) (v : Word) : (s.withCfgTimeout v).errState = s.errState := rfl
@[simp] theorem State.withCfgTimeout_errDur (s : State) (v : Word) : (s.withCfgTimeout v).errDur = s.errDur := rfl
@[simp] theorem State.withCfgTimeout_cfgTimeout (s : State) (v : Word) : (s.withCfgTimeout v).cfgTimeout = v := rfl
@[simp] theorem State.withCfgTimeout_cfgStartLow (s : State) (v : Word) : (s.withCfgTimeout v).cfgStartLow = s.cfgStartLow := rfl
@[simp] theorem State.withCfgTimeout_cfgRelease (s : State) (v : Word) : (s.withCfgTimeout v).cfgRelease = s.cfgRelease := rfl
@[simp] theorem State.withCfgTimeout_cfgBit0Min (s : State) (v : Word) : (s.withCfgTimeout v).cfgBit0Min = s.cfgBit0Min := rfl
@[simp] theorem State.withCfgTimeout_cfgBit0Max (s : State) (v : Word) : (s.withCfgTimeout v).cfgBit0Max = s.cfgBit0Max := rfl
@[simp] theorem State.withCfgTimeout_cfgBit1Min (s : State) (v : Word) : (s.withCfgTimeout v).cfgBit1Min = s.cfgBit1Min := rfl
@[simp] theorem State.withCfgTimeout_cfgBit1Max (s : State) (v : Word) : (s.withCfgTimeout v).cfgBit1Max = s.cfgBit1Max := rfl
@[simp] theorem State.withCfgTimeout_busRdata (s : State) (v : Word) : (s.withCfgTimeout v).busRdata = s.busRdata := rfl
@[simp] theorem State.withCfgTimeout_inputs (s : State) (v : Word) : (s.withCfgTimeout v).inputs = s.inputs := rfl
@[simp] theorem State.withCfgTimeout_edge (s : State) (v : Word) : (s.withCfgTimeout v).edge = s.edge := rfl

@[simp] theorem State.withCfgStartLow_state (s : State) (v : Word) : (s.withCfgStartLow v).state = s.state := rfl
@[simp] theorem State.withCfgStartLow_tMark (s : State) (v : Word) : (s.withCfgStartLow v).tMark = s.tMark := rfl
@[simp] theorem State.withCfgStartLow_shift (s : State) (v : Word) : (s.withCfgStartLow v).shift = s.shift := rfl
@[simp] theorem State.withCfgStartLow_frame (s : State) (v : Word) : (s.withCfgStartLow v).frame = s.frame := rfl
@[simp] theorem State.withCfgStartLow_frameValid (s : State) (v : Word) : (s.withCfgStartLow v).frameValid = s.frameValid := rfl
@[simp] theorem State.withCfgStartLow_bitCnt (s : State) (v : Word) : (s.withCfgStartLow v).bitCnt = s.bitCnt := rfl
@[simp] theorem State.withCfgStartLow_done (s : State) (v : Word) : (s.withCfgStartLow v).done = s.done := rfl
@[simp] theorem State.withCfgStartLow_result (s : State) (v : Word) : (s.withCfgStartLow v).result = s.result := rfl
@[simp] theorem State.withCfgStartLow_errBit (s : State) (v : Word) : (s.withCfgStartLow v).errBit = s.errBit := rfl
@[simp] theorem State.withCfgStartLow_errState (s : State) (v : Word) : (s.withCfgStartLow v).errState = s.errState := rfl
@[simp] theorem State.withCfgStartLow_errDur (s : State) (v : Word) : (s.withCfgStartLow v).errDur = s.errDur := rfl
@[simp] theorem State.withCfgStartLow_cfgTimeout (s : State) (v : Word) : (s.withCfgStartLow v).cfgTimeout = s.cfgTimeout := rfl
@[simp] theorem State.withCfgStartLow_cfgStartLow (s : State) (v : Word) : (s.withCfgStartLow v).cfgStartLow = v := rfl
@[simp] theorem State.withCfgStartLow_cfgRelease (s : State) (v : Word) : (s.withCfgStartLow v).cfgRelease = s.cfgRelease := rfl
@[simp] theorem State.withCfgStartLow_cfgBit0Min (s : State) (v : Word) : (s.withCfgStartLow v).cfgBit0Min = s.cfgBit0Min := rfl
@[simp] theorem State.withCfgStartLow_cfgBit0Max (s : State) (v : Word) : (s.withCfgStartLow v).cfgBit0Max = s.cfgBit0Max := rfl
@[simp] theorem State.withCfgStartLow_cfgBit1Min (s : State) (v : Word) : (s.withCfgStartLow v).cfgBit1Min = s.cfgBit1Min := rfl
@[simp] theorem State.withCfgStartLow_cfgBit1Max (s : State) (v : Word) : (s.withCfgStartLow v).cfgBit1Max = s.cfgBit1Max := rfl
@[simp] theorem State.withCfgStartLow_busRdata (s : State) (v : Word) : (s.withCfgStartLow v).busRdata = s.busRdata := rfl
@[simp] theorem State.withCfgStartLow_inputs (s : State) (v : Word) : (s.withCfgStartLow v).inputs = s.inputs := rfl
@[simp] theorem State.withCfgStartLow_edge (s : State) (v : Word) : (s.withCfgStartLow v).edge = s.edge := rfl

@[simp] theorem State.withCfgRelease_state (s : State) (v : Word) : (s.withCfgRelease v).state = s.state := rfl
@[simp] theorem State.withCfgRelease_tMark (s : State) (v : Word) : (s.withCfgRelease v).tMark = s.tMark := rfl
@[simp] theorem State.withCfgRelease_shift (s : State) (v : Word) : (s.withCfgRelease v).shift = s.shift := rfl
@[simp] theorem State.withCfgRelease_frame (s : State) (v : Word) : (s.withCfgRelease v).frame = s.frame := rfl
@[simp] theorem State.withCfgRelease_frameValid (s : State) (v : Word) : (s.withCfgRelease v).frameValid = s.frameValid := rfl
@[simp] theorem State.withCfgRelease_bitCnt (s : State) (v : Word) : (s.withCfgRelease v).bitCnt = s.bitCnt := rfl
@[simp] theorem State.withCfgRelease_done (s : State) (v : Word) : (s.withCfgRelease v).done = s.done := rfl
@[simp] theorem State.withCfgRelease_result (s : State) (v : Word) : (s.withCfgRelease v).result = s.result := rfl
@[simp] theorem State.withCfgRelease_errBit (s : State) (v : Word) : (s.withCfgRelease v).errBit = s.errBit := rfl
@[simp] theorem State.withCfgRelease_errState (s : State) (v : Word) : (s.withCfgRelease v).errState = s.errState := rfl
@[simp] theorem State.withCfgRelease_errDur (s : State) (v : Word) : (s.withCfgRelease v).errDur = s.errDur := rfl
@[simp] theorem State.withCfgRelease_cfgTimeout (s : State) (v : Word) : (s.withCfgRelease v).cfgTimeout = s.cfgTimeout := rfl
@[simp] theorem State.withCfgRelease_cfgStartLow (s : State) (v : Word) : (s.withCfgRelease v).cfgStartLow = s.cfgStartLow := rfl
@[simp] theorem State.withCfgRelease_cfgRelease (s : State) (v : Word) : (s.withCfgRelease v).cfgRelease = v := rfl
@[simp] theorem State.withCfgRelease_cfgBit0Min (s : State) (v : Word) : (s.withCfgRelease v).cfgBit0Min = s.cfgBit0Min := rfl
@[simp] theorem State.withCfgRelease_cfgBit0Max (s : State) (v : Word) : (s.withCfgRelease v).cfgBit0Max = s.cfgBit0Max := rfl
@[simp] theorem State.withCfgRelease_cfgBit1Min (s : State) (v : Word) : (s.withCfgRelease v).cfgBit1Min = s.cfgBit1Min := rfl
@[simp] theorem State.withCfgRelease_cfgBit1Max (s : State) (v : Word) : (s.withCfgRelease v).cfgBit1Max = s.cfgBit1Max := rfl
@[simp] theorem State.withCfgRelease_busRdata (s : State) (v : Word) : (s.withCfgRelease v).busRdata = s.busRdata := rfl
@[simp] theorem State.withCfgRelease_inputs (s : State) (v : Word) : (s.withCfgRelease v).inputs = s.inputs := rfl
@[simp] theorem State.withCfgRelease_edge (s : State) (v : Word) : (s.withCfgRelease v).edge = s.edge := rfl

@[simp] theorem State.withCfgBit0Min_state (s : State) (v : Word) : (s.withCfgBit0Min v).state = s.state := rfl
@[simp] theorem State.withCfgBit0Min_tMark (s : State) (v : Word) : (s.withCfgBit0Min v).tMark = s.tMark := rfl
@[simp] theorem State.withCfgBit0Min_shift (s : State) (v : Word) : (s.withCfgBit0Min v).shift = s.shift := rfl
@[simp] theorem State.withCfgBit0Min_frame (s : State) (v : Word) : (s.withCfgBit0Min v).frame = s.frame := rfl
@[simp] theorem State.withCfgBit0Min_frameValid (s : State) (v : Word) : (s.withCfgBit0Min v).frameValid = s.frameValid := rfl
@[simp] theorem State.withCfgBit0Min_bitCnt (s : State) (v : Word) : (s.withCfgBit0Min v).bitCnt = s.bitCnt := rfl
@[simp] theorem State.withCfgBit0Min_done (s : State) (v : Word) : (s.withCfgBit0Min v).done = s.done := rfl
@[simp] theorem State.withCfgBit0Min_result (s : State) (v : Word) : (s.withCfgBit0Min v).result = s.result := rfl
@[simp] theorem State.withCfgBit0Min_errBit (s : State) (v : Word) : (s.withCfgBit0Min v).errBit = s.errBit := rfl
@[simp] theorem State.withCfgBit0Min_errState (s : State) (v : Word) : (s.withCfgBit0Min v).errState = s.errState := rfl
@[simp] theorem State.withCfgBit0Min_errDur (s : State) (v : Word) : (s.withCfgBit0Min v).errDur = s.errDur := rfl
@[simp] theorem State.withCfgBit0Min_cfgTimeout (s : State) (v : Word) : (s.withCfgBit0Min v).cfgTimeout = s.cfgTimeout := rfl
@[simp] theorem State.withCfgBit0Min_cfgStartLow (s : State) (v : Word) : (s.withCfgBit0Min v).cfgStartLow = s.cfgStartLow := rfl
@[simp] theorem State.withCfgBit0Min_cfgRelease (s : State) (v : Word) : (s.withCfgBit0Min v).cfgRelease = s.cfgRelease := rfl
@[simp] theorem State.withCfgBit0Min_cfgBit0Min (s : State) (v : Word) : (s.withCfgBit0Min v).cfgBit0Min = v := rfl
@[simp] theorem State.withCfgBit0Min_cfgBit0Max (s : State) (v : Word) : (s.withCfgBit0Min v).cfgBit0Max = s.cfgBit0Max := rfl
@[simp] theorem State.withCfgBit0Min_cfgBit1Min (s : State) (v : Word) : (s.withCfgBit0Min v).cfgBit1Min = s.cfgBit1Min := rfl
@[simp] theorem State.withCfgBit0Min_cfgBit1Max (s : State) (v : Word) : (s.withCfgBit0Min v).cfgBit1Max = s.cfgBit1Max := rfl
@[simp] theorem State.withCfgBit0Min_busRdata (s : State) (v : Word) : (s.withCfgBit0Min v).busRdata = s.busRdata := rfl
@[simp] theorem State.withCfgBit0Min_inputs (s : State) (v : Word) : (s.withCfgBit0Min v).inputs = s.inputs := rfl
@[simp] theorem State.withCfgBit0Min_edge (s : State) (v : Word) : (s.withCfgBit0Min v).edge = s.edge := rfl

@[simp] theorem State.withCfgBit0Max_state (s : State) (v : Word) : (s.withCfgBit0Max v).state = s.state := rfl
@[simp] theorem State.withCfgBit0Max_tMark (s : State) (v : Word) : (s.withCfgBit0Max v).tMark = s.tMark := rfl
@[simp] theorem State.withCfgBit0Max_shift (s : State) (v : Word) : (s.withCfgBit0Max v).shift = s.shift := rfl
@[simp] theorem State.withCfgBit0Max_frame (s : State) (v : Word) : (s.withCfgBit0Max v).frame = s.frame := rfl
@[simp] theorem State.withCfgBit0Max_frameValid (s : State) (v : Word) : (s.withCfgBit0Max v).frameValid = s.frameValid := rfl
@[simp] theorem State.withCfgBit0Max_bitCnt (s : State) (v : Word) : (s.withCfgBit0Max v).bitCnt = s.bitCnt := rfl
@[simp] theorem State.withCfgBit0Max_done (s : State) (v : Word) : (s.withCfgBit0Max v).done = s.done := rfl
@[simp] theorem State.withCfgBit0Max_result (s : State) (v : Word) : (s.withCfgBit0Max v).result = s.result := rfl
@[simp] theorem State.withCfgBit0Max_errBit (s : State) (v : Word) : (s.withCfgBit0Max v).errBit = s.errBit := rfl
@[simp] theorem State.withCfgBit0Max_errState (s : State) (v : Word) : (s.withCfgBit0Max v).errState = s.errState := rfl
@[simp] theorem State.withCfgBit0Max_errDur (s : State) (v : Word) : (s.withCfgBit0Max v).errDur = s.errDur := rfl
@[simp] theorem State.withCfgBit0Max_cfgTimeout (s : State) (v : Word) : (s.withCfgBit0Max v).cfgTimeout = s.cfgTimeout := rfl
@[simp] theorem State.withCfgBit0Max_cfgStartLow (s : State) (v : Word) : (s.withCfgBit0Max v).cfgStartLow = s.cfgStartLow := rfl
@[simp] theorem State.withCfgBit0Max_cfgRelease (s : State) (v : Word) : (s.withCfgBit0Max v).cfgRelease = s.cfgRelease := rfl
@[simp] theorem State.withCfgBit0Max_cfgBit0Min (s : State) (v : Word) : (s.withCfgBit0Max v).cfgBit0Min = s.cfgBit0Min := rfl
@[simp] theorem State.withCfgBit0Max_cfgBit0Max (s : State) (v : Word) : (s.withCfgBit0Max v).cfgBit0Max = v := rfl
@[simp] theorem State.withCfgBit0Max_cfgBit1Min (s : State) (v : Word) : (s.withCfgBit0Max v).cfgBit1Min = s.cfgBit1Min := rfl
@[simp] theorem State.withCfgBit0Max_cfgBit1Max (s : State) (v : Word) : (s.withCfgBit0Max v).cfgBit1Max = s.cfgBit1Max := rfl
@[simp] theorem State.withCfgBit0Max_busRdata (s : State) (v : Word) : (s.withCfgBit0Max v).busRdata = s.busRdata := rfl
@[simp] theorem State.withCfgBit0Max_inputs (s : State) (v : Word) : (s.withCfgBit0Max v).inputs = s.inputs := rfl
@[simp] theorem State.withCfgBit0Max_edge (s : State) (v : Word) : (s.withCfgBit0Max v).edge = s.edge := rfl

@[simp] theorem State.withCfgBit1Min_state (s : State) (v : Word) : (s.withCfgBit1Min v).state = s.state := rfl
@[simp] theorem State.withCfgBit1Min_tMark (s : State) (v : Word) : (s.withCfgBit1Min v).tMark = s.tMark := rfl
@[simp] theorem State.withCfgBit1Min_shift (s : State) (v : Word) : (s.withCfgBit1Min v).shift = s.shift := rfl
@[simp] theorem State.withCfgBit1Min_frame (s : State) (v : Word) : (s.withCfgBit1Min v).frame = s.frame := rfl
@[simp] theorem State.withCfgBit1Min_frameValid (s : State) (v : Word) : (s.withCfgBit1Min v).frameValid = s.frameValid := rfl
@[simp] theorem State.withCfgBit1Min_bitCnt (s : State) (v : Word) : (s.withCfgBit1Min v).bitCnt = s.bitCnt := rfl
@[simp] theorem State.withCfgBit1Min_done (s : State) (v : Word) : (s.withCfgBit1Min v).done = s.done := rfl
@[simp] theorem State.withCfgBit1Min_result (s : State) (v : Word) : (s.withCfgBit1Min v).result = s.result := rfl
@[simp] theorem State.withCfgBit1Min_errBit (s : State) (v : Word) : (s.withCfgBit1Min v).errBit = s.errBit := rfl
@[simp] theorem State.withCfgBit1Min_errState (s : State) (v : Word) : (s.withCfgBit1Min v).errState = s.errState := rfl
@[simp] theorem State.withCfgBit1Min_errDur (s : State) (v : Word) : (s.withCfgBit1Min v).errDur = s.errDur := rfl
@[simp] theorem State.withCfgBit1Min_cfgTimeout (s : State) (v : Word) : (s.withCfgBit1Min v).cfgTimeout = s.cfgTimeout := rfl
@[simp] theorem State.withCfgBit1Min_cfgStartLow (s : State) (v : Word) : (s.withCfgBit1Min v).cfgStartLow = s.cfgStartLow := rfl
@[simp] theorem State.withCfgBit1Min_cfgRelease (s : State) (v : Word) : (s.withCfgBit1Min v).cfgRelease = s.cfgRelease := rfl
@[simp] theorem State.withCfgBit1Min_cfgBit0Min (s : State) (v : Word) : (s.withCfgBit1Min v).cfgBit0Min = s.cfgBit0Min := rfl
@[simp] theorem State.withCfgBit1Min_cfgBit0Max (s : State) (v : Word) : (s.withCfgBit1Min v).cfgBit0Max = s.cfgBit0Max := rfl
@[simp] theorem State.withCfgBit1Min_cfgBit1Min (s : State) (v : Word) : (s.withCfgBit1Min v).cfgBit1Min = v := rfl
@[simp] theorem State.withCfgBit1Min_cfgBit1Max (s : State) (v : Word) : (s.withCfgBit1Min v).cfgBit1Max = s.cfgBit1Max := rfl
@[simp] theorem State.withCfgBit1Min_busRdata (s : State) (v : Word) : (s.withCfgBit1Min v).busRdata = s.busRdata := rfl
@[simp] theorem State.withCfgBit1Min_inputs (s : State) (v : Word) : (s.withCfgBit1Min v).inputs = s.inputs := rfl
@[simp] theorem State.withCfgBit1Min_edge (s : State) (v : Word) : (s.withCfgBit1Min v).edge = s.edge := rfl

@[simp] theorem State.withCfgBit1Max_state (s : State) (v : Word) : (s.withCfgBit1Max v).state = s.state := rfl
@[simp] theorem State.withCfgBit1Max_tMark (s : State) (v : Word) : (s.withCfgBit1Max v).tMark = s.tMark := rfl
@[simp] theorem State.withCfgBit1Max_shift (s : State) (v : Word) : (s.withCfgBit1Max v).shift = s.shift := rfl
@[simp] theorem State.withCfgBit1Max_frame (s : State) (v : Word) : (s.withCfgBit1Max v).frame = s.frame := rfl
@[simp] theorem State.withCfgBit1Max_frameValid (s : State) (v : Word) : (s.withCfgBit1Max v).frameValid = s.frameValid := rfl
@[simp] theorem State.withCfgBit1Max_bitCnt (s : State) (v : Word) : (s.withCfgBit1Max v).bitCnt = s.bitCnt := rfl
@[simp] theorem State.withCfgBit1Max_done (s : State) (v : Word) : (s.withCfgBit1Max v).done = s.done := rfl
@[simp] theorem State.withCfgBit1Max_result (s : State) (v : Word) : (s.withCfgBit1Max v).result = s.result := rfl
@[simp] theorem State.withCfgBit1Max_errBit (s : State) (v : Word) : (s.withCfgBit1Max v).errBit = s.errBit := rfl
@[simp] theorem State.withCfgBit1Max_errState (s : State) (v : Word) : (s.withCfgBit1Max v).errState = s.errState := rfl
@[simp] theorem State.withCfgBit1Max_errDur (s : State) (v : Word) : (s.withCfgBit1Max v).errDur = s.errDur := rfl
@[simp] theorem State.withCfgBit1Max_cfgTimeout (s : State) (v : Word) : (s.withCfgBit1Max v).cfgTimeout = s.cfgTimeout := rfl
@[simp] theorem State.withCfgBit1Max_cfgStartLow (s : State) (v : Word) : (s.withCfgBit1Max v).cfgStartLow = s.cfgStartLow := rfl
@[simp] theorem State.withCfgBit1Max_cfgRelease (s : State) (v : Word) : (s.withCfgBit1Max v).cfgRelease = s.cfgRelease := rfl
@[simp] theorem State.withCfgBit1Max_cfgBit0Min (s : State) (v : Word) : (s.withCfgBit1Max v).cfgBit0Min = s.cfgBit0Min := rfl
@[simp] theorem State.withCfgBit1Max_cfgBit0Max (s : State) (v : Word) : (s.withCfgBit1Max v).cfgBit0Max = s.cfgBit0Max := rfl
@[simp] theorem State.withCfgBit1Max_cfgBit1Min (s : State) (v : Word) : (s.withCfgBit1Max v).cfgBit1Min = s.cfgBit1Min := rfl
@[simp] theorem State.withCfgBit1Max_cfgBit1Max (s : State) (v : Word) : (s.withCfgBit1Max v).cfgBit1Max = v := rfl
@[simp] theorem State.withCfgBit1Max_busRdata (s : State) (v : Word) : (s.withCfgBit1Max v).busRdata = s.busRdata := rfl
@[simp] theorem State.withCfgBit1Max_inputs (s : State) (v : Word) : (s.withCfgBit1Max v).inputs = s.inputs := rfl
@[simp] theorem State.withCfgBit1Max_edge (s : State) (v : Word) : (s.withCfgBit1Max v).edge = s.edge := rfl

@[simp] theorem State.withBusRdata_state (s : State) (v : Word) : (s.withBusRdata v).state = s.state := rfl
@[simp] theorem State.withBusRdata_tMark (s : State) (v : Word) : (s.withBusRdata v).tMark = s.tMark := rfl
@[simp] theorem State.withBusRdata_shift (s : State) (v : Word) : (s.withBusRdata v).shift = s.shift := rfl
@[simp] theorem State.withBusRdata_frame (s : State) (v : Word) : (s.withBusRdata v).frame = s.frame := rfl
@[simp] theorem State.withBusRdata_frameValid (s : State) (v : Word) : (s.withBusRdata v).frameValid = s.frameValid := rfl
@[simp] theorem State.withBusRdata_bitCnt (s : State) (v : Word) : (s.withBusRdata v).bitCnt = s.bitCnt := rfl
@[simp] theorem State.withBusRdata_done (s : State) (v : Word) : (s.withBusRdata v).done = s.done := rfl
@[simp] theorem State.withBusRdata_result (s : State) (v : Word) : (s.withBusRdata v).result = s.result := rfl
@[simp] theorem State.withBusRdata_errBit (s : State) (v : Word) : (s.withBusRdata v).errBit = s.errBit := rfl
@[simp] theorem State.withBusRdata_errState (s : State) (v : Word) : (s.withBusRdata v).errState = s.errState := rfl
@[simp] theorem State.withBusRdata_errDur (s : State) (v : Word) : (s.withBusRdata v).errDur = s.errDur := rfl
@[simp] theorem State.withBusRdata_cfgTimeout (s : State) (v : Word) : (s.withBusRdata v).cfgTimeout = s.cfgTimeout := rfl
@[simp] theorem State.withBusRdata_cfgStartLow (s : State) (v : Word) : (s.withBusRdata v).cfgStartLow = s.cfgStartLow := rfl
@[simp] theorem State.withBusRdata_cfgRelease (s : State) (v : Word) : (s.withBusRdata v).cfgRelease = s.cfgRelease := rfl
@[simp] theorem State.withBusRdata_cfgBit0Min (s : State) (v : Word) : (s.withBusRdata v).cfgBit0Min = s.cfgBit0Min := rfl
@[simp] theorem State.withBusRdata_cfgBit0Max (s : State) (v : Word) : (s.withBusRdata v).cfgBit0Max = s.cfgBit0Max := rfl
@[simp] theorem State.withBusRdata_cfgBit1Min (s : State) (v : Word) : (s.withBusRdata v).cfgBit1Min = s.cfgBit1Min := rfl
@[simp] theorem State.withBusRdata_cfgBit1Max (s : State) (v : Word) : (s.withBusRdata v).cfgBit1Max = s.cfgBit1Max := rfl
@[simp] theorem State.withBusRdata_busRdata (s : State) (v : Word) : (s.withBusRdata v).busRdata = v := rfl
@[simp] theorem State.withBusRdata_inputs (s : State) (v : Word) : (s.withBusRdata v).inputs = s.inputs := rfl
@[simp] theorem State.withBusRdata_edge (s : State) (v : Word) : (s.withBusRdata v).edge = s.edge := rfl

@[simp] theorem State.withEnv_state (s : State) (l : List EdgeInput) (k : Nat) : (s.withEnv l k).state = s.state := rfl
@[simp] theorem State.withEnv_tMark (s : State) (l : List EdgeInput) (k : Nat) : (s.withEnv l k).tMark = s.tMark := rfl
@[simp] theorem State.withEnv_shift (s : State) (l : List EdgeInput) (k : Nat) : (s.withEnv l k).shift = s.shift := rfl
@[simp] theorem State.withEnv_frame (s : State) (l : List EdgeInput) (k : Nat) : (s.withEnv l k).frame = s.frame := rfl
@[simp] theorem State.withEnv_frameValid (s : State) (l : List EdgeInput) (k : Nat) : (s.withEnv l k).frameValid = s.frameValid := rfl
@[simp] theorem State.withEnv_bitCnt (s : State) (l : List EdgeInput) (k : Nat) : (s.withEnv l k).bitCnt = s.bitCnt := rfl
@[simp] theorem State.withEnv_done (s : State) (l : List EdgeInput) (k : Nat) : (s.withEnv l k).done = s.done := rfl
@[simp] theorem State.withEnv_result (s : State) (l : List EdgeInput) (k : Nat) : (s.withEnv l k).result = s.result := rfl
@[simp] theorem State.withEnv_errBit (s : State) (l : List EdgeInput) (k : Nat) : (s.withEnv l k).errBit = s.errBit := rfl
@[simp] theorem State.withEnv_errState (s : State) (l : List EdgeInput) (k : Nat) : (s.withEnv l k).errState = s.errState := rfl
@[simp] theorem State.withEnv_errDur (s : State) (l : List EdgeInput) (k : Nat) : (s.withEnv l k).errDur = s.errDur := rfl
@[simp] theorem State.withEnv_cfgTimeout (s : State) (l : List EdgeInput) (k : Nat) : (s.withEnv l k).cfgTimeout = s.cfgTimeout := rfl
@[simp] theorem State.withEnv_cfgStartLow (s : State) (l : List EdgeInput) (k : Nat) : (s.withEnv l k).cfgStartLow = s.cfgStartLow := rfl
@[simp] theorem State.withEnv_cfgRelease (s : State) (l : List EdgeInput) (k : Nat) : (s.withEnv l k).cfgRelease = s.cfgRelease := rfl
@[simp] theorem State.withEnv_cfgBit0Min (s : State) (l : List EdgeInput) (k : Nat) : (s.withEnv l k).cfgBit0Min = s.cfgBit0Min := rfl
@[simp] theorem State.withEnv_cfgBit0Max (s : State) (l : List EdgeInput) (k : Nat) : (s.withEnv l k).cfgBit0Max = s.cfgBit0Max := rfl
@[simp] theorem State.withEnv_cfgBit1Min (s : State) (l : List EdgeInput) (k : Nat) : (s.withEnv l k).cfgBit1Min = s.cfgBit1Min := rfl
@[simp] theorem State.withEnv_cfgBit1Max (s : State) (l : List EdgeInput) (k : Nat) : (s.withEnv l k).cfgBit1Max = s.cfgBit1Max := rfl
@[simp] theorem State.withEnv_busRdata (s : State) (l : List EdgeInput) (k : Nat) : (s.withEnv l k).busRdata = s.busRdata := rfl
@[simp] theorem State.withEnv_inputs (s : State) (l : List EdgeInput) (k : Nat) : (s.withEnv l k).inputs = l := rfl
@[simp] theorem State.withEnv_edge (s : State) (l : List EdgeInput) (k : Nat) : (s.withEnv l k).edge = k := rfl

end Sys2Proof.Machine
end

