-- ==== Sys2Proof/Laws/Ops.lean ====
section
/-! SUPPORT. For each shared operation, one lemma that says everything it can do, and the inversion of an operation
and of a step. -/

namespace Sys2Proof.Machine

/-- A configuration write of `d` into one of the seven registers, and the state it leaves. -/
def ConfigStore (s u : State) (i : Instr) (d : Word) : Prop :=
  (i = .wrTimeout d ∧ u = s.withCfgTimeout d) ∨ (i = .wrStartLow d ∧ u = s.withCfgStartLow d)
    ∨ (i = .wrRelease d ∧ u = s.withCfgRelease d) ∨ (i = .wrBit0Min d ∧ u = s.withCfgBit0Min d)
    ∨ (i = .wrBit0Max d ∧ u = s.withCfgBit0Max d) ∨ (i = .wrBit1Min d ∧ u = s.withCfgBit1Min d)
    ∨ (i = .wrBit1Max d ∧ u = s.withCfgBit1Max d)

theorem busCycle_next {v : Word} {s t : State} : busCycle v s = .next t ↔ t = s.withBusRdata v := by
  simp [busCycle, eq_comm]

theorem idleWrite_next {v : Word} {new s t : State} :
    idleWrite v new s = .next t ↔ t = (if busy s then s else new).withBusRdata v := busCycle_next

theorem busy_eq_true {s : State} : busy s = true ↔ s.state ≠ .idle := by simp [busy]

theorem busy_eq_false {s : State} : busy s = false ↔ s.state = .idle := by simp [busy]

theorem stateRule_idle {s : State} (h : s.state = .idle) : stateRule s = .hold := by simp [stateRule, h]

theorem waitFor_cases (level : Bool) (next : FsmState) (err : DecodeError) (s : State) :
    (s.line = level ∧ waitFor level next err s = .enter next)
      ∨ (s.line ≠ level ∧ s.cfgTimeout ≤ elapsed s ∧ waitFor level next err s = .fail err)
      ∨ (s.line ≠ level ∧ elapsed s < s.cfgTimeout ∧ waitFor level next err s = .hold) := by
  unfold waitFor
  by_cases hl : s.line = level
  · simp [hl]
  · by_cases ht : s.cfgTimeout ≤ elapsed s
    · simp [hl, ht]
    · simp [hl, ht, BitVec.not_le.mp ht]

theorem dwell_cases (bound : Word) (next : FsmState) (s : State) :
    (bound ≤ elapsed s ∧ dwell bound next s = .enter next) ∨ (elapsed s < bound ∧ dwell bound next s = .hold) := by
  unfold dwell
  by_cases h : bound ≤ elapsed s
  · simp [h]
  · simp [h, BitVec.not_le.mp h]

theorem takeBit_cases (b : Bool) (s : State) :
    (s.bitCnt = 39 ∧ takeBit b s = .commit (shiftIn s.shift b))
      ∨ (s.bitCnt ≠ 39 ∧ takeBit b s = .capture (shiftIn s.shift b)) := by
  by_cases h : s.bitCnt = 39
  · exact .inl ⟨h, if_pos h⟩
  · exact .inr ⟨h, if_neg h⟩

theorem fall_cases (s : State) :
    (classify s (elapsed s) = .zero ∧ fall s = takeBit false s)
      ∨ (classify s (elapsed s) = .one ∧ fall s = takeBit true s)
      ∨ (classify s (elapsed s) = .malformed ∧ fall s = .fail (.invalidPulse s.bitCnt (elapsed s))) := by
  unfold fall
  cases classify s (elapsed s) <;> simp

theorem measureRule_cases (s : State) :
    (s.line = false ∧ measureRule s = fall s)
      ∨ (s.line = true ∧ s.cfgTimeout ≤ elapsed s ∧ measureRule s = .fail (.timeout s.bitCnt))
      ∨ (s.line = true ∧ elapsed s < s.cfgTimeout ∧ measureRule s = .hold) := by
  unfold measureRule
  cases hl : s.line
  · simp
  · by_cases ht : s.cfgTimeout ≤ elapsed s
    · simp [ht]
    · simp [ht, BitVec.not_le.mp ht]

@[simp] theorem applyTransition_hold (pre h : State) : applyTransition .hold pre h = h := rfl

@[simp] theorem applyTransition_enter (next : FsmState) (pre h : State) :
    applyTransition (.enter next) pre h = (h.withState next).withMark pre.now := rfl

@[simp] theorem applyTransition_capture (f : Frame) (pre h : State) :
    applyTransition (.capture f) pre h
      = ((h.withBits f (pre.bitCnt + 1)).withState .bitWaitHigh).withMark pre.now := rfl

@[simp] theorem applyTransition_commit (f : Frame) (pre h : State) :
    applyTransition (.commit f) pre h = commit f h := rfl

@[simp] theorem applyTransition_fail (e : DecodeError) (pre h : State) :
    applyTransition (.fail e) pre h = errorLatch e pre.state h := rfl

/-- `Classify` by its three cases (40_decoder.md R122). -/
theorem classify_cases (s : State) (d : Word) :
    ((s.cfgBit0Min ≤ d ∧ d ≤ s.cfgBit0Max) ∧ classify s d = .zero)
      ∨ (¬(s.cfgBit0Min ≤ d ∧ d ≤ s.cfgBit0Max) ∧ (s.cfgBit1Min ≤ d ∧ d ≤ s.cfgBit1Max) ∧ classify s d = .one)
      ∨ (¬(s.cfgBit0Min ≤ d ∧ d ≤ s.cfgBit0Max) ∧ ¬(s.cfgBit1Min ≤ d ∧ d ≤ s.cfgBit1Max)
        ∧ classify s d = .malformed) := by
  unfold classify
  by_cases h0 : s.cfgBit0Min ≤ d ∧ d ≤ s.cfgBit0Max
  · exact .inl ⟨h0, if_pos h0⟩
  · by_cases h1 : s.cfgBit1Min ≤ d ∧ d ≤ s.cfgBit1Max
    · exact .inr (.inl ⟨h0, h1, by rw [if_neg h0, if_pos h1]⟩)
    · exact .inr (.inr ⟨h0, h1, by rw [if_neg h0, if_neg h1]⟩)

/-- Everything a state rule can do (40_decoder.md R125, R127 to R133). -/
theorem stateRule_cases (s : State) :
    (s.state = .idle ∧ stateRule s = .hold)
      ∨ (s.state ≠ .idle ∧ stateRule s = .hold)
      ∨ (∃ next, stateRule s = .enter next ∧ (s.state, next) ∈
          [(FsmState.startLow, FsmState.startRel), (.startRel, .hsWaitLow), (.hsWaitLow, .hsWaitHigh),
           (.hsWaitHigh, .hsWaitData), (.hsWaitData, .bitWaitHigh), (.bitWaitHigh, .bitMeasure)])
      ∨ (s.state = .bitMeasure ∧ s.line = false ∧ s.bitCnt ≠ 39
          ∧ ∃ b : Bool, classify s (elapsed s) = (if b then .one else .zero)
            ∧ stateRule s = .capture (shiftIn s.shift b))
      ∨ (s.state = .bitMeasure ∧ s.line = false ∧ s.bitCnt = 39
          ∧ ∃ b : Bool, classify s (elapsed s) = (if b then .one else .zero)
            ∧ stateRule s = .commit (shiftIn s.shift b))
      ∨ (s.state ∈ [FsmState.hsWaitLow, .hsWaitHigh, .hsWaitData] ∧ stateRule s = .fail .noResponse)
      ∨ (s.state ∈ [FsmState.bitWaitHigh, .bitMeasure] ∧ stateRule s = .fail (.timeout s.bitCnt))
      ∨ (s.state = .bitMeasure ∧ stateRule s = .fail (.invalidPulse s.bitCnt (elapsed s))) := by
  cases hs : s.state <;> simp only [stateRule, hs]
  case idle => simp
  case startLow => rcases dwell_cases s.cfgStartLow .startRel s with h | h <;> rw [h.2] <;> simp
  case startRel => rcases dwell_cases s.cfgRelease .hsWaitLow s with h | h <;> rw [h.2] <;> simp
  case hsWaitLow =>
    rcases waitFor_cases false .hsWaitHigh .noResponse s with h | ⟨_, h⟩ | ⟨_, h⟩ <;> rw [h.2] <;> simp
  case hsWaitHigh =>
    rcases waitFor_cases true .hsWaitData .noResponse s with h | ⟨_, h⟩ | ⟨_, h⟩ <;> rw [h.2] <;> simp
  case hsWaitData =>
    rcases waitFor_cases false .bitWaitHigh .noResponse s with h | ⟨_, h⟩ | ⟨_, h⟩ <;> rw [h.2] <;> simp
  case bitWaitHigh =>
    rcases waitFor_cases true .bitMeasure (.timeout s.bitCnt) s with h | ⟨_, h⟩ | ⟨_, h⟩ <;> rw [h.2] <;> simp
  case bitMeasure =>
    rcases measureRule_cases s with ⟨hl, h⟩ | ⟨_, h⟩ | ⟨_, h⟩
    · rw [h]
      rcases fall_cases s with ⟨hc, h⟩ | ⟨hc, h⟩ | ⟨_, h⟩
      · rw [h]
        rcases takeBit_cases false s with ⟨h1, h2⟩ | ⟨h1, h2⟩ <;> simp [h2, hl, hc] <;> exact h1
      · rw [h]
        rcases takeBit_cases true s with ⟨h1, h2⟩ | ⟨h1, h2⟩ <;> simp [h2, hl, hc] <;> exact h1
      · rw [h]; simp
    · rw [h.2]; simp
    · rw [h.2]; simp

/-- Everything a host operation can do to the registers: nothing, START, CLEAR, or one configuration write. -/
theorem exec_cases {i : Instr} {s t : State} (h : exec i s = .next t) :
    ∃ u v, t = u.withBusRdata v ∧
      (u = s ∨ (s.state = .idle ∧ u = beginDecode s ∧ ∃ d, i = .start d)
        ∨ ((stateRule s).completes = false ∧ u = acknowledge s ∧ ∃ d, i = .clear d)
        ∨ (s.state = .idle ∧ ∃ d, ConfigStore s u i d)) := by
  by_cases hb : s.state = .idle
  · have hb' : busy s = false := busy_eq_false.mpr hb
    cases i
    case clear d =>
      refine ⟨_, _, busCycle_next.mp h, ?_⟩
      cases hc : (stateRule s).completes <;> simp
    case start d =>
      refine ⟨_, _, idleWrite_next.mp h, ?_⟩
      simp [hb, hb']
    case wrTimeout d => refine ⟨_, _, idleWrite_next.mp h, ?_⟩; simp [hb, hb', ConfigStore]
    case wrStartLow d => refine ⟨_, _, idleWrite_next.mp h, ?_⟩; simp [hb, hb', ConfigStore]
    case wrRelease d => refine ⟨_, _, idleWrite_next.mp h, ?_⟩; simp [hb, hb', ConfigStore]
    case wrBit0Min d => refine ⟨_, _, idleWrite_next.mp h, ?_⟩; simp [hb, hb', ConfigStore]
    case wrBit0Max d => refine ⟨_, _, idleWrite_next.mp h, ?_⟩; simp [hb, hb', ConfigStore]
    case wrBit1Min d => refine ⟨_, _, idleWrite_next.mp h, ?_⟩; simp [hb, hb', ConfigStore]
    case wrBit1Max d => refine ⟨_, _, idleWrite_next.mp h, ?_⟩; simp [hb, hb', ConfigStore]
    all_goals exact ⟨_, _, busCycle_next.mp h, .inl rfl⟩
  · have hb' : busy s = true := busy_eq_true.mpr hb
    cases i
    case clear d =>
      refine ⟨_, _, busCycle_next.mp h, ?_⟩
      cases hc : (stateRule s).completes <;> simp
    case start d => exact ⟨s, _, by simpa [hb'] using idleWrite_next.mp h, .inl rfl⟩
    case wrTimeout d => exact ⟨s, _, by simpa [hb'] using idleWrite_next.mp h, .inl rfl⟩
    case wrStartLow d => exact ⟨s, _, by simpa [hb'] using idleWrite_next.mp h, .inl rfl⟩
    case wrRelease d => exact ⟨s, _, by simpa [hb'] using idleWrite_next.mp h, .inl rfl⟩
    case wrBit0Min d => exact ⟨s, _, by simpa [hb'] using idleWrite_next.mp h, .inl rfl⟩
    case wrBit0Max d => exact ⟨s, _, by simpa [hb'] using idleWrite_next.mp h, .inl rfl⟩
    case wrBit1Min d => exact ⟨s, _, by simpa [hb'] using idleWrite_next.mp h, .inl rfl⟩
    case wrBit1Max d => exact ⟨s, _, by simpa [hb'] using idleWrite_next.mp h, .inl rfl⟩
    all_goals exact ⟨_, _, busCycle_next.mp h, .inl rfl⟩

/-- Everything a step can do: reset, or a host operation finished by the state rule. -/
theorem step_cases {s t : State} (h : step s = .next t) :
    (s.input.rst = true ∧ t = resetEdge s)
      ∨ (s.input.rst = false ∧ ∃ u, exec (fetch s) s = .next u ∧ t = finishEdge s u) := by
  unfold step at h
  cases hr : s.input.rst
  · refine .inr ⟨rfl, ?_⟩
    simp only [hr, Bool.false_eq_true, if_false] at h
    cases he : exec (fetch s) s with
    | next u =>
      rw [he] at h
      exact ⟨u, rfl, by simpa [eq_comm] using h⟩
    | fault r => exact nomatch r
    | refused r => rw [he] at h; exact nomatch h
  · exact .inl ⟨rfl, by simpa [hr, eq_comm] using h⟩

end Sys2Proof.Machine
end

