-- ==== Sys2Proof/Laws/PerInstr.lean ====
section
/-! SUPPORT. Laws stated once per host operation. -/

namespace Sys2Proof.Laws

/-- The encoding of an operation has its write bit, its slot and its data word in the fields of 30_encoding.md R80, and
0 in the ignored address bits. -/
def WireFormat.Statement (i : Instr) : Prop :=
  opWrite (encode i) = i.isWrite ∧ opSlot (encode i) = i.slot ∧ opData (encode i) = i.data
    ∧ (encode i).extractLsb' 32 2 = 0

theorem WireFormat.rdCtrl : WireFormat.Statement .rdCtrl := hostOp_fields _ _ _

theorem WireFormat.rdStatus : WireFormat.Statement .rdStatus := hostOp_fields _ _ _

theorem WireFormat.rdData : WireFormat.Statement .rdData := hostOp_fields _ _ _

theorem WireFormat.rdCheck : WireFormat.Statement .rdCheck := hostOp_fields _ _ _

theorem WireFormat.rdErrInfo : WireFormat.Statement .rdErrInfo := hostOp_fields _ _ _

theorem WireFormat.rdErrDur : WireFormat.Statement .rdErrDur := hostOp_fields _ _ _

theorem WireFormat.rdTimeout : WireFormat.Statement .rdTimeout := hostOp_fields _ _ _

theorem WireFormat.rdStartLow : WireFormat.Statement .rdStartLow := hostOp_fields _ _ _

theorem WireFormat.rdRelease : WireFormat.Statement .rdRelease := hostOp_fields _ _ _

theorem WireFormat.rdBit0Min : WireFormat.Statement .rdBit0Min := hostOp_fields _ _ _

theorem WireFormat.rdBit0Max : WireFormat.Statement .rdBit0Max := hostOp_fields _ _ _

theorem WireFormat.rdBit1Min : WireFormat.Statement .rdBit1Min := hostOp_fields _ _ _

theorem WireFormat.rdBit1Max : WireFormat.Statement .rdBit1Max := hostOp_fields _ _ _

theorem WireFormat.rdRsvd (slot : Slot) : WireFormat.Statement (.rdRsvd slot) := hostOp_fields _ _ _

theorem WireFormat.start (d : Word) : WireFormat.Statement (.start d) := hostOp_fields _ _ _

theorem WireFormat.clear (d : Word) : WireFormat.Statement (.clear d) := hostOp_fields _ _ _

theorem WireFormat.ctrlNop (d : Word) : WireFormat.Statement (.ctrlNop d) := hostOp_fields _ _ _

theorem WireFormat.wrStatus (d : Word) : WireFormat.Statement (.wrStatus d) := hostOp_fields _ _ _

theorem WireFormat.wrData (d : Word) : WireFormat.Statement (.wrData d) := hostOp_fields _ _ _

theorem WireFormat.wrCheck (d : Word) : WireFormat.Statement (.wrCheck d) := hostOp_fields _ _ _

theorem WireFormat.wrErrInfo (d : Word) : WireFormat.Statement (.wrErrInfo d) := hostOp_fields _ _ _

theorem WireFormat.wrErrDur (d : Word) : WireFormat.Statement (.wrErrDur d) := hostOp_fields _ _ _

theorem WireFormat.wrTimeout (d : Word) : WireFormat.Statement (.wrTimeout d) := hostOp_fields _ _ _

theorem WireFormat.wrStartLow (d : Word) : WireFormat.Statement (.wrStartLow d) := hostOp_fields _ _ _

theorem WireFormat.wrRelease (d : Word) : WireFormat.Statement (.wrRelease d) := hostOp_fields _ _ _

theorem WireFormat.wrBit0Min (d : Word) : WireFormat.Statement (.wrBit0Min d) := hostOp_fields _ _ _

theorem WireFormat.wrBit0Max (d : Word) : WireFormat.Statement (.wrBit0Max d) := hostOp_fields _ _ _

theorem WireFormat.wrBit1Min (d : Word) : WireFormat.Statement (.wrBit1Min d) := hostOp_fields _ _ _

theorem WireFormat.wrBit1Max (d : Word) : WireFormat.Statement (.wrBit1Max d) := hostOp_fields _ _ _

theorem WireFormat.wrRsvd (slot : Slot) (d : Word) : WireFormat.Statement (.wrRsvd slot d) := hostOp_fields _ _ _

end Sys2Proof.Laws
end

