-- ==== Sys2Proof/Laws/Run.lean ====
section
/-! SUPPORT. Runs of edges, the elapsed time over them, and the fields of the word on the bus. -/

namespace Sys2Proof.Machine

@[simp] theorem runEdges_zero (s : State) : runEdges 0 s = .next s := rfl

/-- The first edge of a run. -/
theorem runEdges_succ (n : Nat) {s t : State} (h : step s = .next t) : runEdges (n + 1) s = runEdges n t := by
  simp only [runEdges, h]

/-- A run after a run. -/
theorem runEdges_append (m n : Nat) {s t : State} (h : runEdges m s = .next t) :
    runEdges (m + n) s = runEdges n t := by
  induction m generalizing s with
  | zero => rw [runEdges_zero] at h; rw [Host.Outcome.next.inj h, Nat.zero_add]
  | succ m ih =>
    cases hs : step s with
    | next u => rw [runEdges_succ m hs] at h; rw [Nat.succ_add, runEdges_succ _ hs, ih h]
    | fault r => exact nomatch r
    | refused r => simp [runEdges, hs] at h

/-- A step consumes one edge's inputs. -/
theorem step_inputs {s t : State} (h : step s = .next t) : t.inputs = s.inputs.tail := by
  rcases step_cases h with ⟨_, rfl⟩ | ⟨_, u, _, rfl⟩ <;> rfl

@[simp] theorem advances_nil (t0 : Word) : advances t0 [] = [] := rfl

@[simp] theorem advances_cons (t0 : Word) (e : EdgeInput) (es : List EdgeInput) :
    advances t0 (e :: es) = (e.nowUs - t0).toNat :: advances e.nowUs es := rfl

theorem elapsedOver_cons (t0 : Word) (e : EdgeInput) (es : List EdgeInput) :
    elapsedOver t0 (e :: es) = (e.nowUs - t0).toNat + elapsedOver e.nowUs es := by simp [elapsedOver]

/-- The elapsed time over two runs of edges. -/
theorem elapsedOver_append (l : List EdgeInput) (t0 : Word) (last : EdgeInput) (r : List EdgeInput) :
    elapsedOver t0 (l ++ last :: r) = elapsedOver t0 (l ++ [last]) + elapsedOver last.nowUs r := by
  induction l generalizing t0 with
  | nil => simp [elapsedOver]
  | cons a l ih => simp only [List.cons_append, elapsedOver_cons, ih]; omega

/-- The direction of the word on the bus (30_encoding.md R80). -/
theorem hostWord_write (e : EdgeInput) : opWrite (hostWord e) = e.busWe := by
  have h : hostWord e = (BitVec.ofBool e.busWe ++ e.busAddr ++ e.busWdata : BitVec (1 + 6 + 32)) := rfl
  rw [opWrite, h]
  simp only [BitVec.getLsbD_append]
  simp

/-- The slot of the word on the bus (30_encoding.md R80). -/
theorem hostWord_slot (e : EdgeInput) : opSlot (hostWord e) = busSlot e := by
  have h : hostWord e = (BitVec.ofBool e.busWe ++ e.busAddr ++ e.busWdata : BitVec (1 + 6 + 32)) := rfl
  apply BitVec.eq_of_getLsbD_eq
  intro i hi
  rw [opSlot, busSlot, h]
  simp only [BitVec.getLsbD_extractLsb', BitVec.getLsbD_append]
  interval_cases i <;> simp

/-- The data of the word on the bus (30_encoding.md R80). -/
theorem hostWord_data (e : EdgeInput) : opData (hostWord e) = e.busWdata := by
  have h : hostWord e = (BitVec.ofBool e.busWe ++ e.busAddr ++ e.busWdata : BitVec (1 + 6 + 32)) := rfl
  apply BitVec.eq_of_getLsbD_eq
  intro i hi
  rw [opData, h]
  simp only [BitVec.getLsbD_extractLsb', BitVec.getLsbD_append]
  simp [hi]

end Sys2Proof.Machine
end

