-- ==== Sys2Proof/Tests/Slice0.lean ====
section
/-! SUPPORT. Tests against the words and vectors of the spec, and for each obligation with hypotheses a state and operands
that meet them. -/

namespace Sys2Proof.Tests

open Sys2Proof.Machine

/-! Ill-formed terms, one for each check of WellFormed (30_encoding.md R81, R90). -/

theorem test_wellFormed_refuses_start_without_bit0 : wellFormed (.start 2) = false := by decide
theorem test_wellFormed_refuses_clear_with_bit0 : wellFormed (.clear 3) = false := by decide
theorem test_wellFormed_refuses_clear_without_bit1 : wellFormed (.clear 4) = false := by decide
theorem test_wellFormed_refuses_nop_with_bit0 : wellFormed (.ctrlNop 1) = false := by decide
theorem test_wellFormed_refuses_nop_with_bit1 : wellFormed (.ctrlNop 2) = false := by decide
theorem test_wellFormed_refuses_read_of_slot12 : wellFormed (.rdRsvd 12) = false := by decide
theorem test_wellFormed_refuses_write_of_slot3 : wellFormed (.wrRsvd 3 0) = false := by decide

/-! Decoding. The words are written out from 30_encoding.md R80 and R90: W at bit 38, the slot at bits 37:34, the two
ignored address bits at 33:32, D below; ignored bits are set in some of them. -/

theorem test_decode_reads_low_slots :
    decode 0x0000000000#39 = .rdCtrl ∧ decode 0x0400000000#39 = .rdStatus ∧ decode 0x0BFFFFFFFF#39 = .rdData
      ∧ decode 0x0D00000000#39 = .rdCheck ∧ decode 0x1000000001#39 = .rdErrInfo ∧ decode 0x1400000000#39 = .rdErrDur := by
  decide

theorem test_decode_reads_configuration :
    decode 0x1800000000#39 = .rdTimeout ∧ decode 0x1A00000000#39 = .rdTimeout ∧ decode 0x1C00000000#39 = .rdStartLow
      ∧ decode 0x2000000000#39 = .rdRelease ∧ decode 0x2400000000#39 = .rdBit0Min ∧ decode 0x2800000000#39 = .rdBit0Max
      ∧ decode 0x2C00000000#39 = .rdBit1Min ∧ decode 0x3000000000#39 = .rdBit1Max := by
  decide

theorem test_decode_reads_reserved :
    decode 0x3400000000#39 = .rdRsvd 13 ∧ decode 0x3800000000#39 = .rdRsvd 14 ∧ decode 0x3FFFFFFFFF#39 = .rdRsvd 15 := by
  decide

theorem test_decode_commands :
    decode 0x4000000001#39 = .start 1 ∧ decode 0x4000000003#39 = .start 3 ∧ decode 0x4000000002#39 = .clear 2
      ∧ decode 0x43FFFFFFFE#39 = .clear 0xFFFFFFFE ∧ decode 0x4000000000#39 = .ctrlNop 0
      ∧ decode 0x40FFFFFFFC#39 = .ctrlNop 0xFFFFFFFC := by
  decide

theorem test_decode_ignored_writes :
    decode 0x44FFFFFFFF#39 = .wrStatus 0xFFFFFFFF ∧ decode 0x4800000001#39 = .wrData 1
      ∧ decode 0x4C00000001#39 = .wrCheck 1 ∧ decode 0x5000000001#39 = .wrErrInfo 1
      ∧ decode 0x5400000001#39 = .wrErrDur 1 ∧ decode 0x7400000007#39 = .wrRsvd 13 7
      ∧ decode 0x7800000000#39 = .wrRsvd 14 0 ∧ decode 0x7FFFFFFFFF#39 = .wrRsvd 15 0xFFFFFFFF := by
  decide

theorem test_decode_configuration_writes :
    decode 0x58000001F4#39 = .wrTimeout 500 ∧ decode 0x5C00004E20#39 = .wrStartLow 20000
      ∧ decode 0x6000000028#39 = .wrRelease 40 ∧ decode 0x6400000014#39 = .wrBit0Min 20
      ∧ decode 0x6800000023#39 = .wrBit0Max 35 ∧ decode 0x6C0000003C#39 = .wrBit1Min 60
      ∧ decode 0x7000000050#39 = .wrBit1Max 80 := by
  decide

theorem test_encode_words :
    encode (.start 1) = 0x4000000001#39 ∧ encode .rdData = 0x0800000000#39 ∧ encode (.wrRsvd 15 7) = 0x7C00000007#39 := by
  decide

theorem test_decodeBytes_refuses_four_bytes : (decodeBytes [1, 0, 0, 0]).toOption = none := by decide
theorem test_decodeBytes_refuses_bit39 : (decodeBytes [0, 0, 0, 0, 0x80]).toOption = none := by decide
theorem test_decodeTableWord_start : decodeTableWord 40 0x4000000001 = some (.start 1) := by decide

theorem test_fetch_after_placing_a_word :
    fetch (State.reset.withFetchWord 40 0x6400000014) = .wrBit0Min 20 := by decide

/-! States and edges of the tests. -/

/-- An edge without reset that carries a host operation word. -/
def edgeWith (now : Word) (line : Bool) (h : HostOp) : EdgeInput where
  rst := false
  nowUs := now
  lineI := line
  busAddr := h.extractLsb' 32 6
  busWe := opWrite h
  busWdata := opData h

/-- An edge at which the host reads STATUS (30_encoding.md R93, `idle`). -/
def quiet (now : Word) (line : Bool) : EdgeInput := edgeWith now line 0x0400000000#39

/-- An edge with `rst = 1` and a START on the bus. -/
def resetEdgeInput : EdgeInput := { edgeWith 7 true 0x4000000001#39 with rst := true }

/-- The state after reset with given coming edges. -/
def fromReset (es : List EdgeInput) : State := State.reset.withEnv es 0

/-- The same, in a state of a decode cycle whose phase began at `mark`, with `n` bits captured. -/
def midCycle (q : FsmState) (mark : Word) (n : BitVec 6) (es : List EdgeInput) : State :=
  (((fromReset es).withState q).withMark mark).withBits 0 n

/-- The end state E1 of program P1 of 95_test_vectors.md. -/
def stateE1 (es : List EdgeInput) : State :=
  (((((fromReset es).withMark 22185).withBits 0x2D00170044 40).withFrame 0x2D00170044 true).withOutcome .ok true)

/-- The state of V-FSM-01 before its last edge: 39 bits of F1 captured, the high of bit 39 begun at 22185. -/
def lastBit (es : List EdgeInput) : State :=
  (((fromReset es).withState .bitMeasure).withMark 22185).withBits 0x16800B8022 39

/-- The state after a decode error. -/
def failed (r : ResultCode) (n : BitVec 6) (q : FsmState) (d : Word) (cnt : BitVec 6) (es : List EdgeInput) : State :=
  (((fromReset es).withOutcome r true).withError n q d).withBits 0 cnt

/-- The next state. -/
def nextState (s : State) : State :=
  match step s with
  | .next t => t
  | .fault _ => s
  | .refused _ => s

/-! One step each, from the vectors of 95_test_vectors.md and the examples of the rules. -/

theorem test_start_with_bit1_is_start : statusValue (nextState (fromReset [edgeWith 0 true 0x4000000003#39])) = 0x111 := by
  decide

theorem test_start_clears_the_outcome :
    errInfoValue (nextState (failed .noResponse 0 .hsWaitLow 0 0 [edgeWith 5 true 0x4000000001#39])) = 0 := by decide

theorem test_clear_keeps_the_result : statusValue (nextState (stateE1 [edgeWith 22232 true 0x4000000002#39])) = 0x0028100C := by
  decide

theorem test_clear_loses_to_completion :
    statusValue (nextState (lastBit [edgeWith 22230 false 0x4000000002#39])) = 0x0028100E := by decide

theorem test_nop_changes_nothing : statusValue (nextState (stateE1 [edgeWith 0 true 0x40FFFFFFFC#39])) = 0x0028100E := by
  decide

theorem test_reads_in_E1 :
    (nextState (stateE1 [edgeWith 0 true 0x0400000000#39])).busRdata = 0x0028100E
      ∧ (nextState (stateE1 [edgeWith 0 true 0x0800000000#39])).busRdata = 0x2D001700
      ∧ (nextState (stateE1 [edgeWith 0 true 0x0C00000000#39])).busRdata = 0x00004444
      ∧ (nextState (stateE1 [edgeWith 0 true 0x0000000000#39])).busRdata = 0
      ∧ (nextState (stateE1 [edgeWith 0 true 0x3800000000#39])).busRdata = 0 := by
  decide

theorem test_error_reads :
    (nextState (failed .invalidPulse 5 .bitMeasure 200 5 [edgeWith 0 true 0x1000000000#39])).busRdata = 0x705
      ∧ (nextState (failed .invalidPulse 5 .bitMeasure 200 5 [edgeWith 0 true 0x1400000000#39])).busRdata = 0xC8 := by
  decide

theorem test_configuration_reads :
    [0x1800000000#39, 0x1C00000000#39, 0x2000000000#39, 0x2400000000#39, 0x2800000000#39, 0x2C00000000#39, 0x3000000000#39].map
        (fun h => (nextState (fromReset [edgeWith 0 true h])).busRdata)
      = [0x3E8, 0x4650, 0x1E, 0x28, 0x32, 0x41, 0x4B] := by
  decide

theorem test_write_timeout_reads_back :
    (nextState (nextState (fromReset [edgeWith 0 true 0x5812345678#39, edgeWith 1 true 0x1A00000000#39]))).busRdata
      = 0x12345678 := by
  decide

theorem test_configuration_writes_store :
    (nextState (fromReset [edgeWith 0 true 0x5C00004E20#39])).cfgStartLow = 20000
      ∧ (nextState (fromReset [edgeWith 0 true 0x6000000028#39])).cfgRelease = 40
      ∧ (nextState (fromReset [edgeWith 0 true 0x6400000014#39])).cfgBit0Min = 20
      ∧ (nextState (fromReset [edgeWith 0 true 0x6800000023#39])).cfgBit0Max = 35
      ∧ (nextState (fromReset [edgeWith 0 true 0x6C0000003C#39])).cfgBit1Min = 60
      ∧ (nextState (fromReset [edgeWith 0 true 0x7000000050#39])).cfgBit1Max = 80 := by
  decide

theorem test_write_timeout_ignored_while_busy :
    (nextState (midCycle .startLow 0 0 [edgeWith 5000 true 0x5800000005#39])).cfgTimeout = 0x3E8 := by decide

theorem test_ignored_writes :
    [0x44FFFFFFFF#39, 0x48FFFFFFFF#39, 0x4C00000001#39, 0x5000000001#39, 0x5400000001#39, 0x7400000007#39].map
        (fun h => statusValue (nextState (fromReset [edgeWith 0 true h])))
      = [0, 0, 0, 0, 0, 0] := by
  decide

theorem test_commit_of_F1 :
    let t := nextState (lastBit [quiet 22230 false])
    statusValue t = 0x0028100E ∧ dataValue t = 0x2D001700 ∧ checkValue t = 0x00004444 ∧ t.tMark = 22185 := by
  decide

theorem test_commit_with_wrong_integrity_byte :
    let t := nextState ((lastBit [quiet 22255 false]).withBits 0x16800B8021 39)
    statusValue t = 0x00282006 ∧ dataValue t = 0x2D001700 ∧ checkValue t = 0x00004443 := by
  decide

theorem test_invalid_pulse_5_200 :
    let t := nextState (midCycle .bitMeasure 18755 5 [quiet 18955 false])
    statusValue t = 0x00055002 ∧ errInfoValue t = 0x705 ∧ errDurValue t = 200 ∧ dataValue t = 0 := by
  decide

theorem test_no_response :
    let t := nextState (midCycle .hsWaitLow 18030 0 [quiet 19030 true])
    statusValue t = 0x00003002 ∧ errInfoValue t = 0x300 := by
  decide

theorem test_level_wins_at_the_timeout_edge :
    (nextState (midCycle .hsWaitLow 18030 0 [quiet 19030 false])).state = .hsWaitHigh := by decide

theorem test_timeout_10 :
    let t := nextState (midCycle .bitWaitHigh 19230 10 [quiet 20230 false])
    statusValue t = 0x000A4002 ∧ errInfoValue t = 0x60A := by
  decide

theorem test_high_to_the_timeout :
    let t := nextState (midCycle .bitMeasure 18230 0 [quiet 19230 true])
    statusValue t = 0x00004002 ∧ errInfoValue t = 0x700 ∧ errDurValue t = 0 := by
  decide

theorem test_start_low_ends_at_18000 :
    (nextState (midCycle .startLow 0 0 [quiet 17999 false])).state = .startLow
      ∧ (nextState (midCycle .startLow 0 0 [quiet 18000 false])).state = .startRel := by
  decide

theorem test_reset_restores_the_configuration :
    (nextState ((fromReset [resetEdgeInput]).withCfgTimeout 5)).cfgTimeout = 0x3E8 := by decide

theorem test_reset_beats_start : statusValue (nextState (fromReset [resetEdgeInput])) = 0 := by decide

theorem test_elapsed_across_the_wrap :
    elapsed ((fromReset [quiet 0x10 true]).withMark 0xFFFFFFF0) = 0x20
      ∧ elapsed ((fromReset [quiet 0x7FFFFFFF true]).withMark 0x80000000) = 0xFFFFFFFF := by
  decide

theorem test_classify_reset_configuration :
    [0, 39, 40, 50, 51, 64, 65, 75, 76, 0xFFFFFFFF].map (classify State.reset)
      = [.malformed, .malformed, .zero, .zero, .malformed, .malformed, .one, .one, .malformed, .malformed] := by
  decide

theorem test_classify_overlap_and_empty :
    [68, 70, 71].map (classify (State.reset.withCfgBit0Max 70)) = [.zero, .zero, .one]
      ∧ [45, 70].map (classify ((State.reset.withCfgBit0Min 60).withCfgBit0Max 10)) = [.malformed, .one] := by
  decide

theorem test_validate_vectors :
    [0x2D00170044, 0x2D00170043, 0xC86400002C, 0, 0xFFFFFFFFFC, 0xFFFFFFFFFD, 0x2EFF170044, 0x17002D0044, 0x8080000000].map
        validate
      = [true, false, true, true, true, false, true, true, true] := by
  decide

theorem test_shiftIn_drops_bit39 : shiftIn 0x8000000000 false = 0 ∧ shiftIn 0 true = 1 := by decide

/-! Witnesses: for each obligation with hypotheses, states and operands that meet them. Steps are stated of `nextState`,
which is the next state by computation. -/

theorem facts_E1 : ReachableFacts (stateE1 []) := by constructor <;> decide

theorem facts_midCycle : ReachableFacts (midCycle .bitMeasure 18755 39 [quiet 18955 false]) := by constructor <;> decide

theorem facts_handshake : ReachableFacts (midCycle .hsWaitData 18755 0 [quiet 19955 true]) := by constructor <;> decide

theorem record_E1 : OutcomeRecord (stateE1 []) := by constructor <;> decide

theorem record_midCycle : OutcomeRecord (midCycle .bitMeasure 18755 39 [quiet 18955 false]) := by constructor <;> decide

theorem record_noResponse : OutcomeRecord (failed .noResponse 0 .hsWaitData 0 0 []) := by constructor <;> decide

theorem record_timeout : OutcomeRecord (failed .timeout 39 .bitMeasure 0 39 []) := by constructor <;> decide

theorem record_invalidPulse : OutcomeRecord (failed .invalidPulse 39 .bitMeasure 200 39 []) := by constructor <;> decide

theorem witness_DecodeEncodeRoundTrip :
    wellFormed (.start 0xFFFFFFFF) = true ∧ wellFormed (.clear 2) = true ∧ wellFormed (.ctrlNop 0xFFFFFFFC) = true
      ∧ wellFormed (.rdRsvd 13) = true ∧ wellFormed (.wrRsvd 15 7) = true := by
  decide

theorem witness_AddressLowBitsIgnored : (0x18#6).extractLsb' 2 4 = (0x1B#6).extractLsb' 2 4 := by decide

theorem witness_StepRunsDecodedOperation :
    let s := fromReset [edgeWith 0 true 0x4000000001#39]
    s.input.rst = false ∧ decode (hostWord s.input) = .start 1 ∧ ∃ h, exec (.start 1) s = .next h :=
  ⟨rfl, by decide, _, rfl⟩

theorem witness_ResetEdgeOverridesEverything : (midCycle .startLow 0 0 [resetEdgeInput]).input.rst = true := rfl

theorem witness_BusShowsTheSlotBeforeTheEdge : (fromReset [quiet 0 true]).input.busWe = false := by decide

theorem witness_ReadsChangeOnlyTheBus :
    wellFormed .rdCheck = true ∧ Instr.rdCheck.isWrite = false ∧ wellFormed (.rdRsvd 15) = true
      ∧ (Instr.rdRsvd 15).isWrite = false := by
  decide

theorem witness_DataAndCheckShowTheFrame :
    ReachableFacts (midCycle .hsWaitData 18755 0 [quiet 19955 true])
      ∧ (midCycle .hsWaitData 18755 0 [quiet 19955 true]).frameValid = false :=
  ⟨facts_handshake, rfl⟩

theorem witness_ErrorReadsShowTheLatch :
    (OutcomeRecord (stateE1 []) ∧ (stateE1 []).result = .ok)
      ∧ (OutcomeRecord (failed .noResponse 0 .hsWaitData 0 0 [])
        ∧ (failed .noResponse 0 .hsWaitData 0 0 []).result = .noResponse)
      ∧ (OutcomeRecord (failed .timeout 39 .bitMeasure 0 39 [])
        ∧ (failed .timeout 39 .bitMeasure 0 39 []).result ≠ .invalidPulse) :=
  ⟨⟨record_E1, rfl⟩, ⟨record_noResponse, rfl⟩, record_timeout, by decide⟩

theorem witness_CtrlAndReservedReadZero : 13 ≤ (13#4).toNat ∧ 13 ≤ (15#4).toNat := by decide

theorem witness_StartBeginsACycleOnlyWhenIdle : State.reset.state = .idle ∧ (midCycle .startLow 0 0 []).state ≠ .idle := by decide

theorem witness_ConfigWritesStoreOnlyWhenIdle : (stateE1 []).state = .idle ∧ (midCycle .hsWaitLow 0 0 []).state ≠ .idle := by
  decide

theorem witness_ClearClearsOnlyDone :
    (stateRule (stateE1 [quiet 0 true])).completes = false ∧ (stateRule (lastBit [quiet 22230 false])).completes = true
      ∧ (stateE1 []).state = .idle := by
  decide

theorem witness_ConfigWriteReadsBack :
    let s := fromReset [edgeWith 0 true 0x70FFFFFFFF#39, edgeWith 1 true 0x3000000000#39]
    let b := midCycle .startLow 0 0 [edgeWith 0 true 0x58FFFFFFFF#39, edgeWith 1 true 0x1800000000#39]
    (s.input.rst = false ∧ configTarget (fetch s) = some (12, 0xFFFFFFFF) ∧ step s = .next (nextState s)
        ∧ busSlot (nextState s).input = 12 ∧ step (nextState s) = .next (nextState (nextState s)) ∧ s.state = .idle)
      ∧ (b.input.rst = false ∧ configTarget (fetch b) = some (6, 0xFFFFFFFF) ∧ step b = .next (nextState b)
        ∧ busSlot (nextState b).input = 6 ∧ step (nextState b) = .next (nextState (nextState b)) ∧ b.state ≠ .idle) :=
  ⟨⟨rfl, by decide, rfl, by decide, rfl, rfl⟩, rfl, by decide, rfl, by decide, rfl, by decide⟩

theorem witness_BusyIgnoresEveryOperationButClear :
    (midCycle .startLow 0 0 [quiet 1 false]).state ≠ .idle
      ∧ exec (.clear 2) (midCycle .startLow 0 0 [quiet 1 false])
        = .next (((midCycle .startLow 0 0 [quiet 1 false]).withDone false).withBusRdata 0) :=
  ⟨by decide, rfl⟩

theorem witness_StartWhileBusyIsIgnored :
    (midCycle .startLow 0 0 [quiet 1 false]).state ≠ .idle ∧ (3 : Word).getLsbD 0 = true := by decide

theorem witness_BusyKeepsTheConfiguration :
    let s := midCycle .startLow 0 0 [edgeWith 0 true 0x58FFFFFFFF#39]
    s.input.rst = false ∧ s.state ≠ .idle ∧ step s = .next (nextState s) :=
  ⟨rfl, by decide, rfl⟩

theorem witness_CompletionWinsOverClear :
    let s := lastBit [edgeWith 22230 false 0x4000000002#39]
    let r := lastBit [resetEdgeInput]
    let i := stateE1 [edgeWith 0 true 0x4000000002#39]
    (step s = .next (nextState s) ∧ s.input.rst = false ∧ isClear (fetch s) = true ∧ (stateRule s).completes = true
        ∧ s.state ≠ .idle ∧ ∃ h, exec (fetch s) s = .next h)
      ∧ (step r = .next (nextState r) ∧ r.input.rst = true)
      ∧ (step i = .next (nextState i) ∧ i.input.rst = false ∧ isClear (fetch i) = true ∧ i.state = .idle) :=
  ⟨⟨rfl, rfl, by decide, by decide, by decide, _, rfl⟩, ⟨rfl, rfl⟩, rfl, rfl, by decide, rfl⟩

theorem witness_ClassifyFollowsTheRanges :
    SameConfig State.reset (midCycle .bitMeasure 0 0 []) ∧ (39 : Word).toNat ≤ 39
      ∧ (40 ≤ (40 : Word).toNat ∧ (50 : Word).toNat ≤ 50) ∧ (51 ≤ (51 : Word).toNat ∧ (64 : Word).toNat ≤ 64)
      ∧ (65 ≤ (65 : Word).toNat ∧ (75 : Word).toNat ≤ 75) ∧ 76 ≤ (76 : Word).toNat :=
  ⟨⟨rfl, rfl, rfl, rfl, rfl, rfl, rfl⟩, by decide⟩

/-- The forty bits of F1 in the order sent (V-ASM-03). -/
def bitsF1 : List Bool := (List.range 40).map (fun i => (0x2D00170044 : Frame).getLsbD (39 - i))

theorem witness_FortyShiftsAssembleTheFrame : bitsF1.length = 40 ∧ bitsF1.foldl shiftIn 0 = 0x2D00170044 := by decide +kernel

theorem witness_ValidateDetectsAnyOneByteChange :
    let f : Frame := 0x2D00170044
    (frameByte f 4 = sum4 f ∧ validate f = true)
      ∧ ((∀ k, k ≤ 4 → k ≠ 0 → frameByte 0x2E00170044 k = frameByte f k) ∧ frameByte 0x2E00170044 0 ≠ frameByte f 0)
      ∧ ((∀ k, k ≤ 4 → k ≠ 4 → frameByte 0x2D00170043 k = frameByte f k) ∧ frameByte 0x2D00170043 4 ≠ frameByte f 4)
      ∧ (frameByte 0x2EFF170044 0 = frameByte f 0 + 1 ∧ frameByte 0x2EFF170044 1 = frameByte f 1 - 1
        ∧ ∀ k, 2 ≤ k → k ≤ 4 → frameByte 0x2EFF170044 k = frameByte f k)
      ∧ (frameByte 0x17002D0044 0 = frameByte f 2 ∧ frameByte 0x17002D0044 2 = frameByte f 0
        ∧ ∀ k, k ≤ 4 → k ≠ 0 → k ≠ 2 → frameByte 0x17002D0044 k = frameByte f k) := by
  refine ⟨by decide, ⟨fun k hk h => ?_, by decide⟩, ⟨fun k hk h => ?_, by decide⟩,
    ⟨by decide, by decide, fun k h hk => ?_⟩, by decide, by decide, fun k hk h g => ?_⟩ <;>
    interval_cases k <;> first | decide | exact absurd rfl h | exact absurd rfl g

theorem witness_IdleSamplesNothing :
    (stateE1 [edgeWith 0 true 0x4000000002#39]).state = .idle
      ∧ isStart (fetch (stateE1 [edgeWith 0 true 0x4000000002#39])) = false
      ∧ (stateE1 [edgeWith 0 true 0x4000000002#39]).input.rst = false := by
  decide

theorem witness_HostStartDwells :
    (midCycle .startLow 0 0 [quiet 18000 false]).input.rst = false
      ∧ (midCycle .startLow 0 0 [quiet 18000 false]).state = .startLow
      ∧ (midCycle .startRel 18000 0 [quiet 18029 true]).input.rst = false
      ∧ (midCycle .startRel 18000 0 [quiet 18029 true]).state = .startRel := by
  decide

theorem witness_HandshakeWaits :
    (midCycle .hsWaitLow 18030 0 [quiet 19030 true]).input.rst = false
      ∧ (midCycle .hsWaitLow 18030 0 [quiet 19030 true]).state = .hsWaitLow
      ∧ (midCycle .hsWaitHigh 18031 0 [quiet 18100 true]).state = .hsWaitHigh
      ∧ (midCycle .hsWaitData 18100 0 [quiet 18101 true]).state = .hsWaitData := by
  decide

theorem witness_BitWaitTakesTheRise :
    (midCycle .bitWaitHigh 19230 10 [quiet 20230 false]).input.rst = false
      ∧ (midCycle .bitWaitHigh 19230 10 [quiet 20230 false]).state = .bitWaitHigh := by
  decide

theorem witness_BitMeasureClassifiesAtTheFall :
    (let s := midCycle .bitMeasure 18755 5 [quiet 18955 false];
      s.input.rst = false ∧ s.state = .bitMeasure ∧ s.line = false ∧ classify s (elapsed s) = .malformed)
    ∧ (let s := midCycle .bitMeasure 18230 38 [quiet 18280 false];
      s.line = false ∧ classify s (elapsed s) = .zero ∧ s.bitCnt ≠ 39 ∧ s.bitCnt ≠ 63)
    ∧ (let s := lastBit [quiet 22260 false];
      s.line = false ∧ classify s (elapsed s) = .one ∧ s.bitCnt = 39)
    ∧ (let s := midCycle .bitMeasure 18230 0 [quiet 19230 true];
      s.line = true ∧ s.cfgTimeout ≤ elapsed s)
    ∧ (let s := midCycle .bitMeasure 18230 0 [quiet 19229 true];
      s.line = true ∧ elapsed s < s.cfgTimeout) := by
  decide

theorem witness_ErrorLatchRecordsTheError :
    (midCycle .hsWaitData 18755 0 [quiet 19955 true]).input.rst = false
      ∧ stateRule (midCycle .hsWaitData 18755 0 [quiet 19955 true]) = .fail .noResponse
      ∧ ReachableFacts (midCycle .hsWaitData 18755 0 [quiet 19955 true])
      ∧ stateRule (midCycle .bitMeasure 18755 39 [quiet 18955 false]) = .fail (.invalidPulse 39 200)
      ∧ ReachableFacts (midCycle .bitMeasure 18755 39 [quiet 18955 false])
      ∧ stateRule (midCycle .bitMeasure 18230 0 [quiet 19230 true]) = .fail (.timeout 0) :=
  ⟨rfl, by decide, facts_handshake, by decide, facts_midCycle, by decide⟩

theorem witness_TransitionsFollowTheProtocol :
    let s := fromReset [edgeWith 3 true 0x4000000001#39]
    let u := midCycle .bitMeasure 18230 0 [quiet 18275 false]
    (s.input.rst = false ∧ step s = .next (nextState s) ∧ s.state = .idle ∧ (nextState s).state ≠ s.state
        ∧ (nextState s).state ≠ .idle)
      ∧ (u.input.rst = false ∧ step u = .next (nextState u) ∧ (nextState u).state = .bitWaitHigh) :=
  ⟨⟨rfl, rfl, rfl, by decide, by decide⟩, rfl, rfl, by decide⟩

theorem witness_LineReleasedOnEveryExit :
    let s := midCycle .startLow 0 0 [quiet 18000 false]
    let r := midCycle .startLow 0 0 [resetEdgeInput]
    let f := midCycle .hsWaitData 18755 0 [quiet 19955 true]
    (step s = .next (nextState s) ∧ s.state = .startLow ∧ (nextState s).state ≠ .startLow)
      ∧ (step r = .next (nextState r) ∧ r.state ≠ .idle ∧ (nextState r).state = .idle)
      ∧ (step f = .next (nextState f) ∧ f.input.rst = false ∧ stateRule f = .fail .noResponse) :=
  ⟨⟨rfl, rfl, by decide⟩, ⟨rfl, by decide, by decide⟩, rfl, rfl, by decide⟩

theorem witness_FrameChangesOnlyAtStartCommitAndReset :
    let f := midCycle .hsWaitData 18755 0 [quiet 19955 true]
    step f = .next (nextState f) ∧ ReachableFacts f ∧ f.frameValid = false ∧ f.input.rst = false
      ∧ ∃ e, stateRule f = .fail e :=
  ⟨rfl, facts_handshake, rfl, rfl, .noResponse, by decide⟩

theorem witness_DoneRisesAtCompletionAndFallsWhenAcknowledged :
    let s := lastBit [quiet 22230 false]
    let c := stateE1 [edgeWith 22232 true 0x4000000002#39]
    let r := stateE1 [resetEdgeInput]
    (step s = .next (nextState s) ∧ s.done = false ∧ (nextState s).done = true ∧ s.input.rst = false
        ∧ (stateRule s).completes = true)
      ∧ (step c = .next (nextState c) ∧ c.done = true ∧ (nextState c).done = false ∧ c.state = .idle
        ∧ isClear (fetch c) = true)
      ∧ (step r = .next (nextState r) ∧ r.input.rst = true) :=
  ⟨⟨rfl, rfl, by decide, rfl, by decide⟩, ⟨rfl, rfl, by decide, rfl, by decide⟩, rfl, rfl⟩

theorem witness_BusyShowsNoOutcome :
    let s := midCycle .bitMeasure 18755 39 [quiet 18955 false]
    ReachableFacts s ∧ OutcomeRecord s ∧ s.state ≠ .idle :=
  ⟨facts_midCycle, record_midCycle, by decide⟩

theorem witness_StepKeepsTheInvariants :
    let s := midCycle .bitMeasure 18755 39 [quiet 18955 false]
    ReachableFacts s ∧ OutcomeRecord s ∧ step s = .next (nextState s) :=
  ⟨facts_midCycle, record_midCycle, rfl⟩

theorem witness_EveryReachableStateMeetsTheFacts :
    let s := State.reset.withEnv [edgeWith 3 true 0x4000000001#39, quiet 4 false] 0
    runEdges 2 s = .next (nextState (nextState s)) ∧ (nextState (nextState s)).state = .startLow :=
  ⟨rfl, by decide⟩

theorem witness_NoCycleWithoutStart :
    let s := stateE1 [edgeWith 0 true 0x4000000002#39, quiet 1 false]
    s.state = .idle ∧ 2 ≤ s.inputs.length
      ∧ ∀ e ∈ s.inputs.take 2, e.rst = false ∧ isStart (decode (hostWord e)) = false := by
  decide

theorem witness_StoppedTimestampHoldsThePhase :
    (let s := midCycle .startLow 0 0 [quiet 17999 false, quiet 17999 false];
      2 ≤ s.inputs.length ∧ (∀ e ∈ s.inputs.take 2, e.rst = false ∧ e.nowUs = 17999) ∧ s.state = .startLow
        ∧ 17999 - s.tMark < s.cfgStartLow)
    ∧ (let s := midCycle .startRel 0 0 [quiet 29 false, quiet 29 false];
      2 ≤ s.inputs.length ∧ (∀ e ∈ s.inputs.take 2, e.rst = false ∧ e.nowUs = 29) ∧ s.state = .startRel
        ∧ 29 - s.tMark < s.cfgRelease)
    ∧ (let s := midCycle .bitMeasure 0 39 [quiet 999 true, quiet 999 true];
      2 ≤ s.inputs.length ∧ (∀ e ∈ s.inputs.take 2, e.rst = false ∧ e.nowUs = 999) ∧ s.state = .bitMeasure
        ∧ (∀ e ∈ s.inputs.take 2, e.lineI = true) ∧ 999 - s.tMark < s.cfgTimeout) := by
  decide

/-- The pulse of one bit of the standard response, its low beginning at `m`: 50 µs low, then 45 or 70 µs high
(30_encoding.md R95), sampled at the middle and the ends of both. -/
def pulseAt (m : Word) (b : Bool) : Pulse where
  lows := [quiet (m + 25) false]
  rise := quiet (m + 50) true
  highs := [quiet (m + 80) true]
  fall := quiet (m + if b then 120 else 95) false

/-- The pulses of a sequence of bits. -/
def trainAt (m : Word) : List Bool → List Pulse
  | [] => []
  | b :: bs => pulseAt m b :: trainAt (pulseAt m b).fall.nowUs bs

theorem pulseAt_timely (m : Word) (b : Bool) : (pulseAt m b).Timely 1000 m := by
  have h1 : m + 25 - m = 25 := by ring
  have h2 : m + 80 - (m + 50) = 30 := by ring
  simp only [Pulse.Timely, pulseAt, quiet, edgeWith, List.mem_singleton, forall_eq, h1, h2]
  decide

theorem pulseAt_width (m : Word) (b : Bool) : (pulseAt m b).width = if b then 70 else 45 := by
  cases b <;> simp only [Pulse.width, pulseAt, quiet, edgeWith] <;> simp only [Bool.false_eq_true, if_true, if_false] <;> ring

theorem sends_trainAt (s : State) (h : SameConfig State.reset s) (bs : List Bool) (m : Word) :
    Sends s m (trainAt m bs) bs := by
  induction bs generalizing m with
  | nil => trivial
  | cons b bs ih =>
    refine ⟨?_, ?_, ih _⟩
    · rw [h.1]; exact pulseAt_timely m b
    · obtain ⟨_, _, _, h0, h1, h2, h3⟩ := h
      rw [pulseAt_width, classify, h0, h1, h2, h3]
      cases b <;> decide

/-- The state of V-FSM-01 at edge 18180, with the pulses of F1 to come. -/
def beforeF1 : State := midCycle .bitWaitHigh 18180 0 ((trainAt 18180 bitsF1).flatMap Pulse.edges ++ [quiet 0 true])

theorem witness_TimelyPulseIsCaptured :
    let s := midCycle .bitWaitHigh 18180 38 ((pulseAt 18180 true).edges ++ [])
    s.state = .bitWaitHigh ∧ s.bitCnt.toNat < 39 ∧ s.inputs = (pulseAt 18180 true).edges ++ []
      ∧ (pulseAt 18180 true).Timely s.cfgTimeout s.tMark ∧ classify s (pulseAt 18180 true).width = .one :=
  ⟨rfl, by decide, rfl, pulseAt_timely _ _, by decide⟩

theorem witness_PulseTrainIsReconstructed :
    beforeF1.state = .bitWaitHigh ∧ beforeF1.bitCnt = 0 ∧ bitsF1.length = 40
      ∧ beforeF1.inputs = (trainAt 18180 bitsF1).flatMap Pulse.edges ++ [quiet 0 true]
      ∧ Sends beforeF1 beforeF1.tMark (trainAt 18180 bitsF1) bitsF1 :=
  ⟨rfl, rfl, by decide, rfl, sends_trainAt beforeF1 ⟨rfl, rfl, rfl, rfl, rfl, rfl, rfl⟩ _ _⟩

/-- All three bounds 0, so that with `Δ = 1` a decode cycle takes at most 85. -/
def shortBounds (es : List EdgeInput) : State :=
  ((((fromReset es).withCfgTimeout 0).withCfgStartLow 0).withCfgRelease 0)

/-- A run of edges one unit of `now_us` apart. -/
def ticks (n : Nat) : List EdgeInput := (List.range n).map (fun k => quiet (BitVec.ofNat 32 (k + 1)) true)

theorem witness_DecodeCycleEndsWithinItsBound :
    (let s := midCycle .startRel 0 0 (ticks 31);
      s.state ≠ .idle ∧ BoundsFit 1 s ∧ (∀ e ∈ s.inputs, e.rst = false) ∧ Paced 1 s.tMark s.inputs
        ∧ phaseBound s + 1 ≤ elapsedOver s.tMark s.inputs)
    ∧ (let s := shortBounds (edgeWith 0 true 0x4000000001#39 :: ticks 85);
      s.state = .idle ∧ s.input.rst = false ∧ isStart (fetch s) = true ∧ BoundsFit 1 s
        ∧ (∀ e ∈ s.inputs.tail, e.rst = false) ∧ Paced 1 s.now s.inputs.tail
        ∧ cycleBound 1 s ≤ elapsedOver s.now s.inputs.tail) := by
  unfold BoundsFit Paced
  decide +kernel

end Sys2Proof.Tests
end

section
/-! The facts about one edge that the proofs of 10_state.md use: what the operations that write several registers leave in
each of them, and what an edge does to the registers of the decode cycle. -/

namespace Sys2Proof.Machine

/-! The fields of the states that START, Commit and the error latch write. -/

@[simp] theorem beginDecode_state (s : State) : (beginDecode s).state = .startLow := rfl
@[simp] theorem beginDecode_tMark (s : State) : (beginDecode s).tMark = s.now := rfl
@[simp] theorem beginDecode_frame (s : State) : (beginDecode s).frame = 0 := rfl
@[simp] theorem beginDecode_frameValid (s : State) : (beginDecode s).frameValid = false := rfl
@[simp] theorem beginDecode_bitCnt (s : State) : (beginDecode s).bitCnt = 0 := rfl
@[simp] theorem beginDecode_done (s : State) : (beginDecode s).done = false := rfl
@[simp] theorem beginDecode_result (s : State) : (beginDecode s).result = .none := rfl
@[simp] theorem beginDecode_errBit (s : State) : (beginDecode s).errBit = 0 := rfl
@[simp] theorem beginDecode_errState (s : State) : (beginDecode s).errState = .idle := rfl
@[simp] theorem beginDecode_errDur (s : State) : (beginDecode s).errDur = 0 := rfl

@[simp] theorem commit_state (f : Frame) (h : State) : (commit f h).state = .idle := rfl
@[simp] theorem commit_tMark (f : Frame) (h : State) : (commit f h).tMark = h.tMark := rfl
@[simp] theorem commit_frame (f : Frame) (h : State) : (commit f h).frame = f := rfl
@[simp] theorem commit_frameValid (f : Frame) (h : State) : (commit f h).frameValid = true := rfl
@[simp] theorem commit_bitCnt (f : Frame) (h : State) : (commit f h).bitCnt = 40 := rfl
@[simp] theorem commit_result (f : Frame) (h : State) : (commit f h).result = frameResult f := rfl
@[simp] theorem commit_errBit (f : Frame) (h : State) : (commit f h).errBit = h.errBit := rfl
@[simp] theorem commit_errState (f : Frame) (h : State) : (commit f h).errState = h.errState := rfl
@[simp] theorem commit_errDur (f : Frame) (h : State) : (commit f h).errDur = h.errDur := rfl

@[simp] theorem errorLatch_state (e : DecodeError) (q : FsmState) (h : State) : (errorLatch e q h).state = .idle := rfl
@[simp] theorem errorLatch_tMark (e : DecodeError) (q : FsmState) (h : State) : (errorLatch e q h).tMark = h.tMark := rfl
@[simp] theorem errorLatch_frame (e : DecodeError) (q : FsmState) (h : State) : (errorLatch e q h).frame = h.frame := rfl
@[simp] theorem errorLatch_frameValid (e : DecodeError) (q : FsmState) (h : State) :
    (errorLatch e q h).frameValid = h.frameValid := rfl
@[simp] theorem errorLatch_bitCnt (e : DecodeError) (q : FsmState) (h : State) :
    (errorLatch e q h).bitCnt = h.bitCnt := rfl
@[simp] theorem errorLatch_result (e : DecodeError) (q : FsmState) (h : State) :
    (errorLatch e q h).result = e.result := rfl
@[simp] theorem errorLatch_errBit (e : DecodeError) (q : FsmState) (h : State) : (errorLatch e q h).errBit = e.bit := rfl
@[simp] theorem errorLatch_errState (e : DecodeError) (q : FsmState) (h : State) : (errorLatch e q h).errState = q := rfl
@[simp] theorem errorLatch_errDur (e : DecodeError) (q : FsmState) (h : State) : (errorLatch e q h).errDur = e.dur := rfl

@[simp] theorem nextEdge_state (pre h : State) : (nextEdge pre h).state = h.state := rfl
@[simp] theorem nextEdge_tMark (pre h : State) : (nextEdge pre h).tMark = h.tMark := rfl

/-- A committed frame gives OK exactly when it validates (40_decoder.md R134). -/
theorem frameResult_eq_ok_iff (f : Frame) : frameResult f = .ok ↔ validate f = true := by
  unfold frameResult
  split <;> simp [*]

/-- A committed frame gives OK or CHECKSUM_ERROR (40_decoder.md R134). -/
theorem frameResult_cases (f : Frame) : frameResult f = .ok ∨ frameResult f = .checksumError := by
  unfold frameResult
  split <;> simp

/-- No error latches OK (60_exceptions.md R240). -/
theorem DecodeError.result_ne_ok (e : DecodeError) : e.result ≠ .ok := by
  cases e <;> simp [DecodeError.result]

/-! What an edge leaves of the decode cycle. -/

/-- The phases of a decode cycle that begin without a bit being taken, each with the one before it (`stateRule_cases`). -/
def phaseOrder : List (FsmState × FsmState) :=
  [(.startLow, .startRel), (.startRel, .hsWaitLow), (.hsWaitLow, .hsWaitHigh), (.hsWaitHigh, .hsWaitData),
   (.hsWaitData, .bitWaitHigh), (.bitWaitHigh, .bitMeasure)]

/-- `t` has the registers of the decode cycle as `s` has them, except that `done` may have been cleared: what every host
operation leaves but a START taken while idle. -/
structure KeepsCycle (s t : State) : Prop where
  state : t.state = s.state
  tMark : t.tMark = s.tMark
  shift : t.shift = s.shift
  frame : t.frame = s.frame
  frameValid : t.frameValid = s.frameValid
  bitCnt : t.bitCnt = s.bitCnt
  result : t.result = s.result
  errBit : t.errBit = s.errBit
  errState : t.errState = s.errState
  errDur : t.errDur = s.errDur
  done : t.done = true → s.done = true

theorem KeepsCycle.refl (s : State) : KeepsCycle s s :=
  ⟨rfl, rfl, rfl, rfl, rfl, rfl, rfl, rfl, rfl, rfl, id⟩

/-- `bus_rdata` is no register of the decode cycle. -/
theorem KeepsCycle.withBusRdata {s t : State} (h : KeepsCycle s t) (v : Word) : KeepsCycle s (t.withBusRdata v) := { h with }

/-- The inputs are no register of the decode cycle. -/
theorem KeepsCycle.withEnv {s t : State} (h : KeepsCycle s t) (l : List EdgeInput) (k : Nat) :
    KeepsCycle s (t.withEnv l k) := { h with }

theorem keepsCycle_acknowledge (s : State) : KeepsCycle s (acknowledge s) :=
  { KeepsCycle.refl s with done := Bool.noConfusion }

theorem keepsCycle_configStore {s u : State} {i : Instr} {d : Word} (h : ConfigStore s u i d) : KeepsCycle s u := by
  rcases h with ⟨_, rfl⟩ | ⟨_, rfl⟩ | ⟨_, rfl⟩ | ⟨_, rfl⟩ | ⟨_, rfl⟩ | ⟨_, rfl⟩ | ⟨_, rfl⟩ <;>
    exact { KeepsCycle.refl s with }

theorem isStart_eq_true {i : Instr} : isStart i = true ↔ ∃ d, i = .start d := by
  cases i <;> simp [isStart]

/-- A START taken while idle (40_decoder.md R126). -/
theorem exec_start_of_idle {s u : State} {d : Word} (hi : s.state = .idle) (h : exec (.start d) s = .next u) :
    u = (beginDecode s).withBusRdata ctrlValue := by
  simpa [busy_eq_false.mpr hi] using idleWrite_next.mp h

/-- Only a START taken while idle writes a register of the decode cycle other than `done` (42_register_access.md R205
to R220). -/
theorem exec_keepsCycle {i : Instr} {s u : State} (h : exec i s = .next u)
    (hn : ¬(s.state = .idle ∧ isStart i = true)) : KeepsCycle s u := by
  obtain ⟨w, v, rfl, rfl | ⟨hi, _, d, rfl⟩ | ⟨_, rfl, _⟩ | ⟨_, d, hc⟩⟩ := exec_cases h
  · exact (KeepsCycle.refl w).withBusRdata v
  · exact absurd ⟨hi, rfl⟩ hn
  · exact (keepsCycle_acknowledge s).withBusRdata v
  · exact (keepsCycle_configStore hc).withBusRdata v

/-- Everything an edge can do to the decode cycle: reset it, begin it with a START taken while idle, or run the state rule
over an operation that leaves it (40_decoder.md R124). -/
theorem step_cycle_cases {s t : State} (h : step s = .next t) :
    (s.input.rst = true ∧ KeepsCycle State.reset t)
      ∨ (s.state = .idle ∧ isStart (fetch s) = true ∧ KeepsCycle (beginDecode s) t)
      ∨ (¬(s.state = .idle ∧ isStart (fetch s) = true)
        ∧ ∃ u, KeepsCycle s u ∧ t = nextEdge s (applyTransition (stateRule s) s u)) := by
  obtain ⟨hr, rfl⟩ | ⟨_, u, hu, rfl⟩ := step_cases h
  · exact .inl ⟨hr, ((KeepsCycle.refl _).withBusRdata _).withEnv _ _⟩
  by_cases hn : s.state = .idle ∧ isStart (fetch s) = true
  · obtain ⟨hi, hs⟩ := hn
    refine .inr (.inl ⟨hi, hs, ?_⟩)
    obtain ⟨d, hd⟩ := isStart_eq_true.mp hs
    rw [hd] at hu
    rw [exec_start_of_idle hi hu, finishEdge, stateRule_idle hi]
    exact ((KeepsCycle.refl _).withBusRdata _).withEnv _ _
  · exact .inr (.inr ⟨hn, u, exec_keepsCycle hu hn, rfl⟩)

/-- A property of the decode cycle that reset and START establish and the state rule keeps is kept by every step. -/
theorem step_keeps {P : State → Prop} (hcycle : ∀ {s t}, P s → KeepsCycle s t → P t) (hreset : P State.reset)
    (hstart : ∀ s, P (beginDecode s))
    (hrule : ∀ {s u}, P s → KeepsCycle s u → P (applyTransition (stateRule s) s u)) {s t : State} (hs : P s)
    (h : step s = .next t) : P t := by
  obtain ⟨_, hk⟩ | ⟨_, _, hk⟩ | ⟨_, u, hk, rfl⟩ := step_cycle_cases h
  · exact hcycle hreset hk
  · exact hcycle (hstart s) hk
  · exact hcycle (hrule hs hk) ((KeepsCycle.refl _).withEnv _ _)

/-- What every step keeps holds after any number of edges. -/
theorem runEdges_keeps {P : State → Prop} (hstep : ∀ {s t}, P s → step s = .next t → P t) {n : Nat} {s t : State}
    (hs : P s) (h : runEdges n s = .next t) : P t := by
  induction n generalizing s with
  | zero => exact Host.Outcome.next.inj h ▸ hs
  | succ n ih =>
    cases hu : step s with
    | next u => exact ih (hstep hs hu) (runEdges_succ n hu ▸ h)
    | fault r => exact nomatch r
    | refused r => simp [runEdges, hu] at h

end Sys2Proof.Machine
end

section
/-! The facts (a) to (f) of 10_state.md R38, and the record of the outcome registers: how each operation of an edge keeps
them. -/

namespace Sys2Proof.Machine

/-- Fact (e): how far the bit counter can be in a state of the sequencer (10_state.md R38). -/
def CountFits (q : FsmState) (n : BitVec 6) : Prop :=
  (q = .bitWaitHigh ∨ q = .bitMeasure → n.toNat ≤ 39)
    ∧ (q ∈ [FsmState.startLow, .startRel, .hsWaitLow, .hsWaitHigh, .hsWaitData] → n = 0)

/-- A phase that begins without a capture takes over the count: 0 up to BIT_WAIT_HIGH, at most 39 beyond. -/
theorem CountFits.enter {q next : FsmState} {n : BitVec 6} (h : CountFits q n) (hq : (q, next) ∈ phaseOrder) :
    next ≠ .idle ∧ CountFits next n := by
  obtain ⟨hlate, hearly⟩ := h
  simp only [phaseOrder, List.mem_cons, Prod.mk.injEq, List.not_mem_nil, or_false] at hq
  rcases hq with ⟨rfl, rfl⟩ | ⟨rfl, rfl⟩ | ⟨rfl, rfl⟩ | ⟨rfl, rfl⟩ | ⟨rfl, rfl⟩ | ⟨rfl, rfl⟩
  case inr.inr.inr.inr.inr => simpa [CountFits] using hlate
  all_goals simp [CountFits, hearly]

/-- A captured bit before the fortieth is counted. -/
theorem CountFits.capture {n : BitVec 6} (h : CountFits .bitMeasure n) (hn : n ≠ 39) :
    CountFits .bitWaitHigh (n + 1) := by
  have hle : n.toNat ≤ 39 := h.1 (.inr rfl)
  refine ⟨fun _ => ?_, by simp⟩
  bv_omega

/-- In a busy state the facts say that there is no outcome and no frame, and that the count fits the state. -/
theorem reachableFacts_busy_iff {s : State} (hb : s.state ≠ .idle) :
    ReachableFacts s ↔ s.done = false ∧ s.frameValid = false ∧ s.frame = 0 ∧ s.result = .none
      ∧ CountFits s.state s.bitCnt := by
  constructor
  · rintro ⟨hdone, hzero, hframe, hnone, hlate, hearly, _⟩
    have hv : s.frameValid = false := Bool.eq_false_iff.mpr fun hv => hb (hframe hv).1
    exact ⟨Bool.eq_false_iff.mpr fun hd => hb (hdone hd), hv, hzero hv, hnone hb, hlate, hearly⟩
  · rintro ⟨hd, hv, hz, hn, hlate, hearly⟩
    exact ⟨by simp [hd], fun _ => hz, by simp [hv], fun _ => hn, hlate, hearly, by simp [hn, hv]⟩

/-- While no outcome stands, the record says that `done` and the error registers are clear. -/
theorem outcomeRecord_none_iff {s : State} (hn : s.result = .none) :
    OutcomeRecord s ↔ s.done = false ∧ s.errBit = 0 ∧ s.errState = .idle ∧ s.errDur = 0 := by
  constructor
  · rintro ⟨hdone, hclear, _, _, _⟩
    exact ⟨Bool.eq_false_iff.mpr fun hd => hdone hd hn, hclear (.inl hn)⟩
  · rintro ⟨hd, hclear⟩
    exact ⟨by simp [hd], fun _ => hclear, by simp [hn], by simp [hn], by simp [hn]⟩

theorem ReachableFacts.of_keepsCycle {s t : State} (hf : ReachableFacts s) (hk : KeepsCycle s t) : ReachableFacts t := by
  obtain ⟨hstate, _, _, hframe, hvalid, hcnt, hresult, _, _, _, hdone⟩ := hk
  obtain ⟨ha, hb, hc, hd, he, he', hff⟩ := hf
  constructor <;> simp only [chkOk, hstate, hframe, hvalid, hcnt, hresult]
  case done_idle => exact fun h => ha (hdone h)
  case ok_iff => exact hff
  all_goals assumption

theorem OutcomeRecord.of_keepsCycle {s t : State} (ho : OutcomeRecord s) (hk : KeepsCycle s t) : OutcomeRecord t := by
  obtain ⟨_, _, _, _, hvalid, hcnt, hresult, hbit, hstate, hdur, hdone⟩ := hk
  obtain ⟨ha, hb, hc, hd, he⟩ := ho
  constructor <;> simp only [hvalid, hcnt, hresult, hbit, hstate, hdur]
  case done_outcome => exact fun h => ha (hdone h)
  all_goals assumption

/-! START, Commit and the error latch. -/

theorem reachableFacts_beginDecode (s : State) : ReachableFacts (beginDecode s) :=
  (reachableFacts_busy_iff (by simp)).mpr (by simp [CountFits])

theorem outcomeRecord_beginDecode (s : State) : OutcomeRecord (beginDecode s) :=
  (outcomeRecord_none_iff (beginDecode_result s)).mpr (by simp)

/-- Commit establishes the facts over any state. -/
theorem reachableFacts_commit (f : Frame) (h : State) : ReachableFacts (commit f h) where
  done_idle _ := rfl
  noFrame_zero hv := by simp at hv
  frame_idle _ := ⟨rfl, rfl, frameResult_cases f⟩
  busy_noResult hb := by simp at hb
  capture_count hs := by simp at hs
  early_count hs := by simp at hs
  ok_iff := by simp [chkOk, frameResult_eq_ok_iff]

/-- Commit keeps the error registers, which must be clear. -/
theorem outcomeRecord_commit (f : Frame) {h : State} (hclear : h.errBit = 0 ∧ h.errState = .idle ∧ h.errDur = 0) :
    OutcomeRecord (commit f h) := by
  have hr := frameResult_cases f
  constructor <;> simp only [commit_result, commit_errBit, commit_errState, commit_errDur]
  case noError_clear => exact fun _ => hclear
  all_goals rcases hr with hr | hr <;> simp [hr]

/-- The error latch leaves a state without a frame as it is, and no error is OK. -/
theorem reachableFacts_errorLatch (e : DecodeError) (q : FsmState) {h : State} (hv : h.frameValid = false)
    (hz : h.frame = 0) : ReachableFacts (errorLatch e q h) where
  done_idle _ := rfl
  noFrame_zero _ := hz
  frame_idle hv' := by simp [hv] at hv'
  busy_noResult hb := by simp at hb
  capture_count hs := by simp at hs
  early_count hs := by simp at hs
  ok_iff := by simp [hv, e.result_ne_ok]

theorem outcomeRecord_noResponse {q : FsmState} {h : State} (hv : h.frameValid = false)
    (hq : q ∈ [FsmState.hsWaitLow, .hsWaitHigh, .hsWaitData]) : OutcomeRecord (errorLatch .noResponse q h) := by
  constructor <;> simp only [errorLatch_result, DecodeError.result]
  case noResponse_record => exact fun _ => ⟨hq, rfl, rfl, hv⟩
  all_goals simp

theorem outcomeRecord_timeout {q : FsmState} {h : State} (hv : h.frameValid = false)
    (hq : q ∈ [FsmState.bitWaitHigh, .bitMeasure]) (hle : h.bitCnt.toNat ≤ 39) :
    OutcomeRecord (errorLatch (.timeout h.bitCnt) q h) := by
  constructor <;> simp only [errorLatch_result, DecodeError.result]
  case timeout_record => exact fun _ => ⟨hq, rfl, hle, rfl, hv⟩
  all_goals simp

theorem outcomeRecord_invalidPulse {h : State} (d : Word) (hv : h.frameValid = false) (hle : h.bitCnt.toNat ≤ 39) :
    OutcomeRecord (errorLatch (.invalidPulse h.bitCnt d) .bitMeasure h) := by
  constructor <;> simp only [errorLatch_result, DecodeError.result]
  case invalidPulse_record => exact fun _ => ⟨rfl, rfl, hle, hv⟩
  all_goals simp

/-! The state rule. -/

/-- The state rule keeps the facts, over any operation that leaves the decode cycle. -/
theorem reachableFacts_applyTransition {s u : State} (hf : ReachableFacts s) (hk : KeepsCycle s u) :
    ReachableFacts (applyTransition (stateRule s) s u) := by
  have hu : ReachableFacts u := hf.of_keepsCycle hk
  by_cases hb : u.state = .idle
  · rwa [stateRule_idle (hk.state ▸ hb)]
  obtain ⟨hd, hv, hz, hn, hcount⟩ := (reachableFacts_busy_iff hb).mp hu
  obtain ⟨_, hr⟩ | ⟨_, hr⟩ | ⟨next, hr, hq⟩ | ⟨hs, _, h39, b, _, hr⟩ | ⟨_, _, _, b, _, hr⟩ | ⟨_, hr⟩ | ⟨_, hr⟩ | ⟨_, hr⟩ :=
    stateRule_cases s <;> rw [hr]
  · exact hu
  · exact hu
  · rw [← hk.state] at hq
    obtain ⟨hnext, hcount'⟩ := hcount.enter hq
    exact (reachableFacts_busy_iff hnext).mpr ⟨hd, hv, hz, hn, hcount'⟩
  · rw [hk.state, hs] at hcount
    rw [applyTransition_capture, ← hk.bitCnt]
    rw [← hk.bitCnt] at h39
    exact (reachableFacts_busy_iff (by simp)).mpr ⟨hd, hv, hz, hn, hcount.capture h39⟩
  · exact reachableFacts_commit _ u
  all_goals exact reachableFacts_errorLatch _ _ hv hz

/-- The state rule keeps the record, over any operation that leaves the decode cycle. -/
theorem outcomeRecord_applyTransition {s u : State} (hf : ReachableFacts s) (ho : OutcomeRecord s)
    (hk : KeepsCycle s u) : OutcomeRecord (applyTransition (stateRule s) s u) := by
  have hou : OutcomeRecord u := ho.of_keepsCycle hk
  by_cases hb : u.state = .idle
  · rwa [stateRule_idle (hk.state ▸ hb)]
  obtain ⟨_, hv, _, hn, hlate, _⟩ := (reachableFacts_busy_iff hb).mp (hf.of_keepsCycle hk)
  have hclear := (outcomeRecord_none_iff hn).mp hou
  rw [hk.state] at hlate
  obtain ⟨_, hr⟩ | ⟨_, hr⟩ | ⟨next, hr, _⟩ | ⟨_, _, _, b, _, hr⟩ | ⟨_, _, _, b, _, hr⟩ | ⟨hs, hr⟩ | ⟨hs, hr⟩ | ⟨hs, hr⟩ :=
    stateRule_cases s <;> rw [hr]
  · exact hou
  · exact hou
  · exact (outcomeRecord_none_iff (by exact hn)).mpr hclear
  · exact (outcomeRecord_none_iff (by exact hn)).mpr hclear
  · exact outcomeRecord_commit _ hclear.2
  · exact outcomeRecord_noResponse hv hs
  · rw [← hk.bitCnt]
    exact outcomeRecord_timeout hv hs (hlate (by simpa using hs))
  · rw [← hk.bitCnt, applyTransition_fail, hs]
    exact outcomeRecord_invalidPulse _ hv (hlate (.inr hs))

/-! The edge. -/

/-- Every register of the state after reset that the facts speak of is at its value of 10_state.md R39. -/
theorem reachableFacts_reset : ReachableFacts State.reset := by
  constructor <;> decide

theorem outcomeRecord_reset : OutcomeRecord State.reset :=
  (outcomeRecord_none_iff rfl).mpr (by decide)

theorem step_keeps_reachableFacts {s t : State} (hf : ReachableFacts s) (h : step s = .next t) : ReachableFacts t :=
  step_keeps .of_keepsCycle reachableFacts_reset reachableFacts_beginDecode reachableFacts_applyTransition hf h

/-- The two invariants together: the record needs the facts, by which no frame stands beside an error and the bit
counter an error records is at most 39. -/
theorem step_keeps_invariants {s t : State} (hi : ReachableFacts s ∧ OutcomeRecord s) (h : step s = .next t) :
    ReachableFacts t ∧ OutcomeRecord t :=
  step_keeps (P := fun s => ReachableFacts s ∧ OutcomeRecord s)
    (fun ⟨hf, ho⟩ hk => ⟨hf.of_keepsCycle hk, ho.of_keepsCycle hk⟩)
    ⟨reachableFacts_reset, outcomeRecord_reset⟩
    (fun s => ⟨reachableFacts_beginDecode s, outcomeRecord_beginDecode s⟩)
    (fun ⟨hf, ho⟩ hk => ⟨reachableFacts_applyTransition hf hk, outcomeRecord_applyTransition hf ho hk⟩) hi h

/-- Settles O45: reset establishes the facts, a START taken while idle does, and the state rule keeps them. -/
theorem stepKeepsReachableFacts : Obligations.StepKeepsReachableFacts :=
  fun _ _ hf h => step_keeps_reachableFacts hf h

/-- Settles O46: the step lemma of the two invariants together. -/
theorem stepKeepsTheOutcomeRecord : Obligations.StepKeepsTheOutcomeRecord :=
  fun _ _ hf ho h => step_keeps_invariants ⟨hf, ho⟩ h

/-- Settles O47, the base of both invariants. -/
theorem resetMeetsTheInvariants : Obligations.ResetMeetsTheInvariants :=
  ⟨reachableFacts_reset, outcomeRecord_reset⟩

/-- Settles O48, by induction on the number of edges: the facts hold at reset under any schedule, and every step keeps
them. -/
theorem everyReachableStateMeetsTheFacts : Obligations.EveryReachableStateMeetsTheFacts := by
  intro n k schedule t h
  have hreset : ReachableFacts (State.reset.withEnv schedule k) :=
    reachableFacts_reset.of_keepsCycle ((KeepsCycle.refl _).withEnv schedule k)
  exact runEdges_keeps step_keeps_reachableFacts hreset h

end Sys2Proof.Machine
end

section
/-! The transitions of the sequencer and the start of each phase (10_state.md R24, R26), the reset table (R39) and the
outputs (R35, R36). -/

namespace Sys2Proof.Machine

/-- What one edge does to `state` and `t_mark` from `s` to `t`. -/
inductive PhaseEdge (s t : State) : Prop where
  /-- The phase goes on. -/
  | hold (hstate : t.state = s.state) (hmark : t.tMark = s.tMark)
  /-- The next phase begins now; after a bit that is the next bit's wait. -/
  | enter (hnext : (s.state, t.state) ∈ (.bitMeasure, .bitWaitHigh) :: phaseOrder) (hmark : t.tMark = s.now)
  /-- The cycle ends, at a commit or an error, with the mark it had. -/
  | finish (hbusy : s.state ∈ [FsmState.hsWaitLow, .hsWaitHigh, .hsWaitData, .bitWaitHigh, .bitMeasure])
      (hidle : t.state = .idle) (hmark : t.tMark = s.tMark)

/-- Every state rule holds the phase, begins the next, or ends the cycle (40_decoder.md R125, R127 to R134). -/
theorem phaseEdge_applyTransition {s u : State} (hk : KeepsCycle s u) :
    PhaseEdge s (applyTransition (stateRule s) s u) := by
  obtain ⟨_, hr⟩ | ⟨_, hr⟩ | ⟨next, hr, hq⟩ | ⟨hs, _, _, b, _, hr⟩ | ⟨hs, _, _, b, _, hr⟩ | ⟨hs, hr⟩ | ⟨hs, hr⟩ | ⟨hs, hr⟩ :=
    stateRule_cases s <;> rw [hr]
  · exact .hold hk.state hk.tMark
  · exact .hold hk.state hk.tMark
  · exact .enter (List.mem_cons_of_mem _ hq) rfl
  · exact .enter (by simp [hs]) rfl
  · exact .finish (by simp [hs]) rfl hk.tMark
  · exact .finish (List.mem_append_left [FsmState.bitWaitHigh, .bitMeasure] hs) rfl hk.tMark
  · exact .finish (List.mem_append_right [FsmState.hsWaitLow, .hsWaitHigh, .hsWaitData] hs) rfl hk.tMark
  · exact .finish (by simp [hs]) rfl hk.tMark

/-- Settles O40: a START taken while idle begins START_LOW; any other edge does what the state rule does. -/
theorem transitionsFollowTheProtocol : Obligations.TransitionsFollowTheProtocol := by
  intro s t hr h
  obtain ⟨hr', _⟩ | ⟨hi, hs, hk⟩ | ⟨hn, u, hk, rfl⟩ := step_cycle_cases h
  · simp [hr] at hr'
  · simp [hi, hs, hk.state, hk.tMark]
  have hstart : s.state = .idle → isStart (fetch s) = false := fun hi => Bool.eq_false_iff.mpr fun hs => hn ⟨hi, hs⟩
  have hphase := phaseEdge_applyTransition hk
  simp only [nextEdge_state, nextEdge_tMark]
  generalize applyTransition (stateRule s) s u = t at hphase
  cases hphase with
  | hold hstate hmark =>
    rw [hstate, hmark]
    refine ⟨?_, fun hi => by simp [hi, hstart hi], by simp, by simp⟩
    cases s.state <;> simp
  | enter hnext hmark =>
    rw [hmark]
    generalize t.state = q at hnext
    simp only [phaseOrder, List.mem_cons, Prod.mk.injEq, List.not_mem_nil, or_false] at hnext
    rcases hnext with ⟨hs, rfl⟩ | ⟨hs, rfl⟩ | ⟨hs, rfl⟩ | ⟨hs, rfl⟩ | ⟨hs, rfl⟩ | ⟨hs, rfl⟩ | ⟨hs, rfl⟩ <;> simp [hs]
  | finish hbusy hidle hmark =>
    rw [hidle, hmark]
    simp only [List.mem_cons, List.not_mem_nil, or_false] at hbusy
    rcases hbusy with hs | hs | hs | hs | hs <;> simp [hs]

/-- Settles O8: each field of the record, and the outputs computed from it. -/
theorem resetStateIsTheTable : Obligations.ResetStateIsTheTable := by
  unfold Obligations.ResetStateIsTheTable
  decide

/-- The line is driven exactly in START_LOW (10_state.md R35). -/
theorem lineOe_iff (s : State) : lineOe s = true ↔ s.state = .startLow := beq_iff_eq

/-- Settles O33. -/
theorem outputsFollowTheState : Obligations.OutputsFollowTheState :=
  fun s => ⟨lineOe_iff s, rfl, rfl, busy_eq_true⟩

end Sys2Proof.Machine
end

section
/-! The bus of one edge (20_memory.md R60, R71): the slot the fetched operation names, the value every operation puts on
`bus_rdata`, and that an edge reads of the address nothing but the slot. -/

namespace Sys2Proof.Machine

/-! The operation on the bus. -/

theorem reservedSlot_iff {slot : Slot} : reservedSlot slot = true ↔ 13 ≤ slot.toNat := decide_eq_true_iff

/-- Every command of CTRL is an operation of slot 0 and meets its check (30_encoding.md R81). -/
theorem decodeCtrl_slot_wellFormed (d : Word) : (decodeCtrl d).slot = 0 ∧ wellFormed (decodeCtrl d) = true := by
  unfold decodeCtrl
  split
  case isTrue h0 => exact ⟨rfl, h0⟩
  case isFalse h0 =>
    split
    case isTrue h1 => exact ⟨rfl, by simp only [wellFormed, h0, h1, Bool.not_false, Bool.and_self]⟩
    case isFalse h1 => exact ⟨rfl, by simp only [wellFormed, h0, h1, Bool.not_false, Bool.and_self]⟩

theorem decodeRead_slot_wellFormed : ∀ slot : Slot, (decodeRead slot).slot = slot ∧ wellFormed (decodeRead slot) = true := by
  decide

theorem decodeWrite_slot_wellFormed (slot : Slot) (d : Word) :
    (decodeWrite slot d).slot = slot ∧ wellFormed (decodeWrite slot d) = true := by
  unfold decodeWrite
  split
  case h_1 h =>
    obtain rfl : slot = 0 := BitVec.eq_of_toNat_eq h
    exact decodeCtrl_slot_wellFormed d
  case h_14 => exact ⟨rfl, reservedSlot_iff.mpr (by grind)⟩
  all_goals
    rename_i h
    exact ⟨(BitVec.eq_of_toNat_eq h).symm, rfl⟩

/-- The operation on the bus by the fields of the ports (30_encoding.md R80, R90). -/
theorem decode_hostWord (e : EdgeInput) :
    decode (hostWord e) = if e.busWe then decodeWrite (busSlot e) e.busWdata else decodeRead (busSlot e) := by
  rw [decode, hostWord_write, hostWord_slot, hostWord_data]

theorem fetch_slot_wellFormed (s : State) : (fetch s).slot = busSlot s.input ∧ wellFormed (fetch s) = true := by
  rw [fetch, decode_hostWord]
  split
  · exact decodeWrite_slot_wellFormed _ _
  · exact decodeRead_slot_wellFormed _

/-! The value on the bus (42_register_access.md R190). -/

@[simp] theorem readValue_withEnv (slot : Slot) (s : State) (l : List EdgeInput) (k : Nat) :
    readValue slot (s.withEnv l k) = readValue slot s := rfl

@[simp] theorem readValue_withBusRdata (slot : Slot) (s : State) (v : Word) :
    readValue slot (s.withBusRdata v) = readValue slot s := rfl

/-- A reserved slot reads 0 (20_memory.md R69). -/
theorem readValue_of_reserved {slot : Slot} (hr : 13 ≤ slot.toNat) (s : State) : readValue slot s = reservedValue := by
  unfold readValue
  split
  case h_14 => rfl
  all_goals omega

/-- Every well-formed operation completes, in a bus cycle that shows its slot as it stands before the edge. -/
theorem exec_eq_busCycle {i : Instr} (hw : wellFormed i = true) (s : State) :
    ∃ u, exec i s = busCycle (readValue i.slot s) u := by
  cases i
  case rdRsvd slot => exact ⟨s, by rw [Instr.slot, readValue_of_reserved (reservedSlot_iff.mp hw)]; rfl⟩
  case wrRsvd slot d => exact ⟨s, by rw [Instr.slot, readValue_of_reserved (reservedSlot_iff.mp hw)]; rfl⟩
  all_goals exact ⟨_, rfl⟩

@[simp] theorem applyTransition_busRdata (t : Transition) (pre h : State) :
    (applyTransition t pre h).busRdata = h.busRdata := by
  cases t <;> rfl

@[simp] theorem finishEdge_busRdata (pre h : State) : (finishEdge pre h).busRdata = h.busRdata :=
  applyTransition_busRdata _ _ _

theorem step_of_rst {s : State} (hr : s.input.rst = true) : step s = .next (resetEdge s) := if_pos hr

theorem step_of_exec {s u : State} (hr : s.input.rst = false) (h : exec (fetch s) s = .next u) :
    step s = .next (finishEdge s u) := by
  simp [step, hr, h]

/-- Every edge, with reset or without, has a next state and shows the addressed slot as it stands before the edge. -/
theorem step_shows_slot (s : State) : ∃ t, step s = .next t ∧ t.busRdata = readValue (busSlot s.input) s := by
  cases hr : s.input.rst
  · obtain ⟨hslot, hwf⟩ := fetch_slot_wellFormed s
    obtain ⟨u, hu⟩ := exec_eq_busCycle hwf s
    rw [hslot] at hu
    exact ⟨_, step_of_exec hr hu, finishEdge_busRdata _ _⟩
  · exact ⟨_, step_of_rst hr, rfl⟩

/-! What an edge reads of the inputs. -/

theorem beginDecode_withEnv {s : State} {l : List EdgeInput} {k : Nat} (hnow : (s.withEnv l k).now = s.now) :
    beginDecode (s.withEnv l k) = (beginDecode s).withEnv l k := by
  rw [beginDecode, hnow]; rfl

/-- The state rule reads of the inputs the timestamp and the line (40_decoder.md R124). -/
theorem stateRule_withEnv {s : State} {l : List EdgeInput} {k : Nat} (hnow : (s.withEnv l k).now = s.now)
    (hline : (s.withEnv l k).line = s.line) : stateRule (s.withEnv l k) = stateRule s := by
  have he : elapsed (s.withEnv l k) = elapsed s := by rw [elapsed, hnow]; rfl
  unfold stateRule
  simp only [dwell, waitFor, measureRule, fall, takeBit, classify, he, hline, State.withEnv_state, State.withEnv_cfgTimeout]
  rfl

theorem applyTransition_withEnv {s : State} {l : List EdgeInput} {k : Nat} (hnow : (s.withEnv l k).now = s.now)
    (t : Transition) (h : State) :
    applyTransition t (s.withEnv l k) (h.withEnv l k) = (applyTransition t s h).withEnv l k := by
  cases t <;> simp only [applyTransition, hnow] <;> rfl

/-- An operation that writes only while idle does not read the inputs. -/
theorem idleWrite_withEnv {v : Word} {new s u : State} (l : List EdgeInput) (k : Nat)
    (h : idleWrite v new s = .next u) : idleWrite v (new.withEnv l k) (s.withEnv l k) = .next (u.withEnv l k) := by
  have hb : busy (s.withEnv l k) = busy s := rfl
  rw [idleWrite_next.mp h, idleWrite_next, hb]
  split <;> rfl

/-- A host operation reads of the inputs at most the timestamp and the line, and leaves the inputs. -/
theorem exec_withEnv {i : Instr} {s u : State} {l : List EdgeInput} {k : Nat} (hnow : (s.withEnv l k).now = s.now)
    (hline : (s.withEnv l k).line = s.line) (h : exec i s = .next u) :
    exec i (s.withEnv l k) = .next (u.withEnv l k) := by
  cases i
  case start d =>
    have hs := idleWrite_withEnv l k h
    rwa [← beginDecode_withEnv hnow] at hs
  case clear d =>
    rw [busCycle_next.mp h, exec, execClear, stateRule_withEnv hnow hline]
    split <;> rfl
  case wrTimeout | wrStartLow | wrRelease | wrBit0Min | wrBit0Max | wrBit1Min | wrBit1Max =>
    exact idleWrite_withEnv l k h
  all_goals rw [busCycle_next.mp h]; rfl

/-- Two inputs with one timestamp and one level of the line end the edge of one operation alike. -/
theorem finishEdge_withEnv {s : State} {e : EdgeInput} (hnow : e.nowUs = s.now)
    (hline : e.lineI = s.line) (u : State) :
    finishEdge (s.withEnv (e :: s.inputs.tail) s.edge) (u.withEnv (e :: s.inputs.tail) s.edge) = finishEdge s u := by
  have hnow' : (s.withEnv (e :: s.inputs.tail) s.edge).now = s.now := hnow
  rw [finishEdge, stateRule_withEnv hnow' hline, applyTransition_withEnv hnow']
  rfl

/-- Two addresses of one slot carry the same operation (30_encoding.md R80). -/
theorem fetch_withBusAddr {s : State} {a : BitVec 6} (ha : a.extractLsb' 2 4 = busSlot s.input) :
    fetch (s.withBusAddr a) = fetch s := by
  have hslot : busSlot (s.withBusAddr a).input = busSlot s.input := ha
  rw [fetch, decode_hostWord, hslot, fetch, decode_hostWord]
  rfl

/-- Another address of the slot on the bus gives the same edge. -/
theorem step_withBusAddr {s : State} {a : BitVec 6} (ha : a.extractLsb' 2 4 = busSlot s.input) :
    step (s.withBusAddr a) = step s := by
  obtain ⟨t, ht, _⟩ := step_shows_slot s
  obtain ⟨hr, rfl⟩ | ⟨hr, u, hu, rfl⟩ := step_cases ht
  · have hedge : resetEdge (s.withBusAddr a) = resetEdge s := by rw [resetEdge, resetEdge, ← ha]; rfl
    rw [ht, ← hedge]
    exact step_of_rst hr
  · have hexec := exec_withEnv (l := (s.withBusAddr a).inputs) (k := s.edge) rfl rfl hu
    rw [← fetch_withBusAddr ha] at hexec
    rw [ht, ← finishEdge_withEnv (e := { s.input with busAddr := a }) rfl rfl u]
    exact step_of_exec hr hexec

/-- Settles O5: the fetched operation's slot is the address's, every edge shows that slot, and the edge of an address is
that of any other address of its slot. -/
theorem addressLowBitsIgnored : Obligations.AddressLowBitsIgnored :=
  fun s a => ⟨(fetch_slot_wellFormed _).1, step_shows_slot (s.withBusAddr a),
    fun a' ha => step_withBusAddr (s := s.withBusAddr a') ha⟩

end Sys2Proof.Machine
end

section
/-! The configuration registers as memory (20_memory.md R64, R75): what a configuration write leaves in its slot, and that
nothing else an edge does changes what the slot shows. -/

namespace Sys2Proof.Machine

/-- The seven configuration writes and their slots (42_register_access.md R213 to R219). -/
theorem configTarget_eq_some {i : Instr} {slot : Slot} {d : Word} :
    configTarget i = some (slot, d) ↔
      (i = .wrTimeout d ∧ slot = 6) ∨ (i = .wrStartLow d ∧ slot = 7) ∨ (i = .wrRelease d ∧ slot = 8)
        ∨ (i = .wrBit0Min d ∧ slot = 9) ∨ (i = .wrBit0Max d ∧ slot = 10) ∨ (i = .wrBit1Min d ∧ slot = 11)
        ∨ (i = .wrBit1Max d ∧ slot = 12) := by
  cases i <;> simp [configTarget, eq_comm, and_comm]

/-- A configuration write is a write that takes effect only while idle, of a store after which its slot shows the
value written. -/
theorem exec_configWrite {i : Instr} {slot : Slot} {d : Word} (hc : configTarget i = some (slot, d)) (s : State) :
    ∃ new, exec i s = idleWrite (readValue slot s) new s ∧ readValue slot new = d := by
  obtain ⟨rfl, rfl⟩ | ⟨rfl, rfl⟩ | ⟨rfl, rfl⟩ | ⟨rfl, rfl⟩ | ⟨rfl, rfl⟩ | ⟨rfl, rfl⟩ | ⟨rfl, rfl⟩ :=
    configTarget_eq_some.mp hc <;> exact ⟨_, rfl, rfl⟩

/-- The slot of a configuration register shows that register and nothing else. -/
theorem readValue_of_sameConfig {i : Instr} {slot : Slot} {d : Word} (hc : configTarget i = some (slot, d))
    {s t : State} (h : SameConfig s t) : readValue slot t = readValue slot s := by
  obtain ⟨hto, hsl, hrel, h0min, h0max, h1min, h1max⟩ := h
  obtain ⟨_, rfl⟩ | ⟨_, rfl⟩ | ⟨_, rfl⟩ | ⟨_, rfl⟩ | ⟨_, rfl⟩ | ⟨_, rfl⟩ | ⟨_, rfl⟩ := configTarget_eq_some.mp hc
  · exact hto
  · exact hsl
  · exact hrel
  · exact h0min
  · exact h0max
  · exact h1min
  · exact h1max

/-- The state rule and the passage to the next edge write no configuration register. -/
theorem sameConfig_finishEdge (pre h : State) : SameConfig h (finishEdge pre h) := by
  unfold finishEdge
  cases stateRule pre <;> exact ⟨rfl, rfl, rfl, rfl, rfl, rfl, rfl⟩

/-- What the slot of a configuration write shows after its edge. -/
theorem readValue_of_configWrite {s t : State} {slot : Slot} {d : Word} (hr : s.input.rst = false)
    (hc : configTarget (fetch s) = some (slot, d)) (h : step s = .next t) :
    readValue slot t = if busy s then readValue slot s else d := by
  obtain ⟨hr', _⟩ | ⟨_, u, hu, rfl⟩ := step_cases h
  · simp [hr] at hr'
  obtain ⟨new, hexec, hnew⟩ := exec_configWrite hc s
  rw [hexec, idleWrite_next] at hu
  rw [readValue_of_sameConfig hc (sameConfig_finishEdge s u), hu, readValue_withBusRdata, apply_ite (readValue slot), hnew]

/-- Settles O22: the second edge shows the slot as the first leaves it, which is the value written if it was taken. -/
theorem configWriteReadsBack : Obligations.ConfigWriteReadsBack := by
  intro s t u slot d hr hc hst hslot htu
  obtain ⟨u', hu', hshow⟩ := step_shows_slot t
  obtain rfl : u = u' := Host.Outcome.next.inj (htu.symm.trans hu')
  rw [hshow, hslot, readValue_of_configWrite hr hc hst]
  exact ⟨fun hi => by simp [busy_eq_false.mpr hi], fun hb => by simp [busy_eq_true.mpr hb]⟩

end Sys2Proof.Machine
end

section
/-! The host operation word (30_encoding.md R80, R81, R90): decoding an encoded operation, and encoding a decoded one. -/

namespace Sys2Proof.Machine

/-! Decoding what `encode` writes. -/

/-- A word is decoded by its three fields. -/
theorem decode_hostOp (w : Bool) (slot : Slot) (d : Word) :
    decode (hostOp w slot d) = if w then decodeWrite slot d else decodeRead slot := by
  obtain ⟨hwrite, hslot, hdata, _⟩ := Laws.hostOp_fields w slot d
  rw [decode, hwrite, hslot, hdata]

theorem decodeCtrl_start {d : Word} (h : wellFormed (.start d) = true) : decodeCtrl d = .start d := if_pos h

theorem decodeCtrl_clear {d : Word} (h : wellFormed (.clear d) = true) : decodeCtrl d = .clear d := by
  simp only [wellFormed, Bool.and_eq_true, Bool.not_eq_true'] at h
  obtain ⟨h0, h1⟩ := h
  rw [decodeCtrl, h0, h1]
  rfl

theorem decodeCtrl_ctrlNop {d : Word} (h : wellFormed (.ctrlNop d) = true) : decodeCtrl d = .ctrlNop d := by
  simp only [wellFormed, Bool.and_eq_true, Bool.not_eq_true'] at h
  obtain ⟨h0, h1⟩ := h
  rw [decodeCtrl, h0, h1]
  rfl

theorem decodeRead_of_reserved {slot : Slot} (hr : 13 ≤ slot.toNat) : decodeRead slot = .rdRsvd slot := by
  unfold decodeRead
  split
  case h_14 => rfl
  all_goals omega

theorem decodeWrite_of_reserved {slot : Slot} (hr : 13 ≤ slot.toNat) (d : Word) :
    decodeWrite slot d = .wrRsvd slot d := by
  unfold decodeWrite
  split
  case h_14 => rfl
  all_goals omega

/-- The checks of `wellFormed` are the ones the decoder makes: of the command bits of CTRL and of the reserved slots. -/
theorem decode_encode {i : Instr} (hw : wellFormed i = true) : decode (encode i) = i := by
  rw [encode, decode_hostOp]
  cases i
  case start d => exact decodeCtrl_start hw
  case clear d => exact decodeCtrl_clear hw
  case ctrlNop d => exact decodeCtrl_ctrlNop hw
  case rdRsvd slot => exact decodeRead_of_reserved (reservedSlot_iff.mp hw)
  case wrRsvd slot d => exact decodeWrite_of_reserved (reservedSlot_iff.mp hw) d
  all_goals rfl

/-- Settles O1: the five operand checks are what each branch of the decoder tests. -/
theorem decodeEncodeRoundTrip : Obligations.DecodeEncodeRoundTrip := fun _ hw => decode_encode hw

/-! Encoding what `decode` reads. -/

theorem decodeCtrl_isWrite_data (d : Word) : (decodeCtrl d).isWrite = true ∧ (decodeCtrl d).data = d := by
  unfold decodeCtrl
  split
  · exact ⟨rfl, rfl⟩
  · split <;> exact ⟨rfl, rfl⟩

theorem decodeRead_isWrite_data : ∀ slot : Slot, (decodeRead slot).isWrite = false ∧ (decodeRead slot).data = 0 := by
  decide

theorem decodeWrite_isWrite_data (slot : Slot) (d : Word) :
    (decodeWrite slot d).isWrite = true ∧ (decodeWrite slot d).data = d := by
  unfold decodeWrite
  split
  case h_1 => exact decodeCtrl_isWrite_data d
  all_goals exact ⟨rfl, rfl⟩

theorem decode_wellFormed (h : HostOp) : wellFormed (decode h) = true := by
  unfold decode
  split
  · exact (decodeWrite_slot_wellFormed _ _).2
  · exact (decodeRead_slot_wellFormed _).2

/-- Of a read `encode` writes the direction and the slot, of a write also the data. -/
theorem encode_decode (h : HostOp) :
    encode (decode h) = hostOp (opWrite h) (opSlot h) (if opWrite h then opData h else 0) := by
  unfold encode decode
  cases opWrite h
  · obtain ⟨hwrite, hdata⟩ := decodeRead_isWrite_data (opSlot h)
    simp [hwrite, hdata, (decodeRead_slot_wellFormed (opSlot h)).1]
  · obtain ⟨hwrite, hdata⟩ := decodeWrite_isWrite_data (opSlot h) (opData h)
    simp [hwrite, hdata, (decodeWrite_slot_wellFormed (opSlot h) (opData h)).1]

/-- A word is its fields: the direction, the slot, the two low address bits and the data (30_encoding.md R80). -/
theorem hostOp_eq_fields (h : HostOp) :
    h = BitVec.ofBool (opWrite h) ++ opSlot h ++ h.extractLsb' 32 2 ++ opData h := by
  apply BitVec.eq_of_getLsbD_eq
  intro j hj
  simp only [opWrite, opSlot, opData, BitVec.getLsbD_append, BitVec.getLsbD_extractLsb']
  interval_cases j <;> simp

/-- What a mask of the direction, the slot and the data bits `m` keeps of a word, field by field. -/
theorem and_hostOp (h : HostOp) (m : Word) :
    h &&& hostOp true 15 m = hostOp (opWrite h) (opSlot h) (opData h &&& m) := by
  have hwrite : BitVec.ofBool (opWrite h) &&& BitVec.ofBool true = BitVec.ofBool (opWrite h) := BitVec.and_allOnes
  have hslot : opSlot h &&& 15 = opSlot h := BitVec.and_allOnes
  have hlow : h.extractLsb' 32 2 &&& 0#2 = 0#2 := BitVec.and_zero
  conv_lhs => rw [hostOp_eq_fields h, hostOp]
  rw [BitVec.and_append, BitVec.and_append, BitVec.and_append, hwrite, hslot, hlow]
  rfl

/-- Settles O2: `encode` writes the fields that the two masks keep. -/
theorem encodeDecodeClearsOnlyIgnoredBits : Obligations.EncodeDecodeClearsOnlyIgnoredBits := by
  refine fun h => ⟨decode_wellFormed h, ?_⟩
  have hwriteMask : (0x7CFFFFFFFF : HostOp) = hostOp true 15 (BitVec.allOnes 32) := by decide
  have hreadMask : (0x7C00000000 : HostOp) = hostOp true 15 0#32 := by decide
  rw [encode_decode, hwriteMask, hreadMask, and_hostOp, and_hostOp, BitVec.and_allOnes, BitVec.and_zero]
  split <;> rfl

/-! The opcode table. -/

/-- The bits the opcode table fixes: the direction, the slot, and the two command bits of CTRL (30_encoding.md R81). -/
def opcodeBits : HostOp := hostOp true 15 3

theorem mask_and_opcodeBits : ∀ r ∈ opcodeTable, opcodeBits &&& r.mask = r.mask := by decide

theorem covers_and_opcodeBits {r : OpcodeRow} (hr : r ∈ opcodeTable) (h : HostOp) :
    r.covers (h &&& opcodeBits) = r.covers h := by
  rw [OpcodeRow.covers, BitVec.and_assoc, mask_and_opcodeBits r hr, OpcodeRow.covers]

theorem decodeCtrl_mnemonic_and (d : Word) : (decodeCtrl (d &&& 3)).mnemonic = (decodeCtrl d).mnemonic := by
  have h0 : (d &&& 3).getLsbD 0 = d.getLsbD 0 := by simp
  have h1 : (d &&& 3).getLsbD 1 = d.getLsbD 1 := by simp
  unfold decodeCtrl
  rw [h0, h1]
  split
  · rfl
  · split <;> rfl

theorem decodeWrite_mnemonic_and (slot : Slot) (d : Word) :
    (decodeWrite slot (d &&& 3)).mnemonic = (decodeWrite slot d).mnemonic := by
  unfold decodeWrite
  split
  case h_1 => exact decodeCtrl_mnemonic_and d
  all_goals rfl

/-- The decoder names a word by the bits the opcode table fixes. -/
theorem decode_mnemonic_and_opcodeBits (h : HostOp) : (decode (h &&& opcodeBits)).mnemonic = (decode h).mnemonic := by
  rw [opcodeBits, and_hostOp, decode_hostOp, decode]
  split
  · exact decodeWrite_mnemonic_and _ _
  · rfl

/-- On the 128 words of the opcode bits the table and the decoder agree. -/
theorem rows_hostOp : ∀ (w : Bool) (slot : Slot) (c : BitVec 2),
    (opcodeTable.filter (·.covers (hostOp w slot (c.setWidth 32)))).map (·.mnemonic)
      = [(decode (hostOp w slot (c.setWidth 32))).mnemonic] := by
  decide

theorem and_three_eq_setWidth (d : Word) : d &&& 3 = (d.setWidth 2).setWidth 32 := by
  apply BitVec.eq_of_toNat_eq
  have hmod : d.toNat &&& 3 = d.toNat % 4 := Nat.and_two_pow_sub_one_eq_mod _ 2
  rw [BitVec.toNat_and, BitVec.toNat_setWidth, BitVec.toNat_setWidth]
  exact hmod.trans (Nat.mod_eq_of_lt (by omega)).symm

/-- Table and decoder read the opcode bits alone, so that the 128 words of those bits decide for every word. -/
theorem rows_of_word (h : HostOp) :
    (opcodeTable.filter (·.covers h)).map (·.mnemonic) = [(decode h).mnemonic] := by
  have hcommand := and_three_eq_setWidth (opData h)
  have hword := rows_hostOp (opWrite h) (opSlot h) ((opData h).setWidth 2)
  rw [← hcommand, ← and_hostOp, ← opcodeBits, decode_mnemonic_and_opcodeBits] at hword
  rw [← hword, List.filter_congr fun r hr => covers_and_opcodeBits hr h]

/-- Settles O3: the decoded operation is well formed, so that it completes. -/
theorem eachWordMatchesExactlyOneRow : Obligations.EachWordMatchesExactlyOneRow := by
  refine fun h => ⟨rows_of_word h, fun s => ?_⟩
  obtain ⟨u, hu⟩ := exec_eq_busCycle (decode_wellFormed h) s
  exact ⟨_, hu⟩

/-- Settles O4, by evaluating the decoder on each word. -/
theorem decodesProgramWords : Obligations.DecodesProgramWords := by
  unfold Obligations.DecodesProgramWords
  decide

/-- Settles O32, by the constructors of the two types. -/
theorem codesAreTheTables : Obligations.CodesAreTheTables := by
  refine ⟨rfl, rfl, fun r => ?_⟩
  cases r <;> decide

end Sys2Proof.Machine
end

section
/-! Trains of pulses (40_decoder.md R132 to R134): the frame that shifts assemble, what an edge of a busy SWPD leaves, runs
of edges on which the state rule holds, one pulse, and the train of forty. -/

namespace Sys2Proof.Machine

/-! The assembled frame (40_decoder.md R123). -/

theorem getLsbD_shiftIn_zero (f : Frame) (b : Bool) : (shiftIn f b).getLsbD 0 = b := by
  rw [shiftIn, BitVec.getLsbD_setWidth, BitVec.getLsbD_append]
  simp

theorem getLsbD_shiftIn_succ (f : Frame) (b : Bool) {j : Nat} (hj : j < 39) :
    (shiftIn f b).getLsbD (j + 1) = f.getLsbD j := by
  have hj' : j + 1 < 40 := by omega
  rw [shiftIn, BitVec.getLsbD_setWidth, BitVec.getLsbD_append]
  simp [hj']

/-- Of the bits shifted in the last stands at bit 0 and each one before it a bit higher. -/
theorem getLsbD_foldl_shiftIn (f : Frame) (bits : List Bool) {j : Nat} (hj : j < 40) (hlen : j < bits.reverse.length) :
    (bits.foldl shiftIn f).getLsbD j = bits.reverse[j] := by
  induction bits using List.reverseRecOn generalizing j with
  | nil => simp at hlen
  | append_singleton bits b ih =>
    simp only [List.foldl_append, List.foldl_cons, List.foldl_nil, List.reverse_append, List.reverse_singleton,
      List.singleton_append, List.length_cons] at hlen ⊢
    cases j with
    | zero => exact getLsbD_shiftIn_zero _ b
    | succ j =>
      rw [getLsbD_shiftIn_succ _ b (by omega)]
      exact ih (by omega) (by omega)

/-- After forty bits, bit `i` in the order sent stands at bit `39 - i` (30_encoding.md R88). -/
theorem getLsbD_foldl_shiftIn_forty (f : Frame) {bits : List Bool} (hlen : bits.length = 40) {i : Nat} (hi : i < 40) :
    (bits.foldl shiftIn f).getLsbD (39 - i) = bits[i]! := by
  have hidx : bits.length - 1 - (39 - i) = i := by omega
  rw [getLsbD_foldl_shiftIn f bits (by omega) (by rw [List.length_reverse]; omega), List.getElem_reverse,
    getElem!_pos bits i (by omega)]
  simp only [hidx]

/-! An edge of a busy SWPD. -/

theorem SameConfig.refl (s : State) : SameConfig s s := ⟨rfl, rfl, rfl, rfl, rfl, rfl, rfl⟩

theorem SameConfig.trans {s t u : State} (hst : SameConfig s t) (htu : SameConfig t u) : SameConfig s u := by
  obtain ⟨hto, hsl, hrel, h0min, h0max, h1min, h1max⟩ := hst
  obtain ⟨hto', hsl', hrel', h0min', h0max', h1min', h1max'⟩ := htu
  exact ⟨hto'.trans hto, hsl'.trans hsl, hrel'.trans hrel, h0min'.trans h0min, h0max'.trans h0max, h1min'.trans h1min,
    h1max'.trans h1max⟩

theorem KeepsCycle.trans {s t u : State} (hst : KeepsCycle s t) (htu : KeepsCycle t u) : KeepsCycle s u where
  state := htu.state.trans hst.state
  tMark := htu.tMark.trans hst.tMark
  shift := htu.shift.trans hst.shift
  frame := htu.frame.trans hst.frame
  frameValid := htu.frameValid.trans hst.frameValid
  bitCnt := htu.bitCnt.trans hst.bitCnt
  result := htu.result.trans hst.result
  errBit := htu.errBit.trans hst.errBit
  errState := htu.errState.trans hst.errState
  errDur := htu.errDur.trans hst.errDur
  done := hst.done ∘ htu.done

/-- While busy no operation writes a register but CLEAR, which clears `done` (42_register_access.md R205). -/
theorem exec_of_busy {i : Instr} {s u : State} (hb : s.state ≠ .idle) (h : exec i s = .next u) :
    KeepsCycle s u ∧ SameConfig s u := by
  refine ⟨exec_keepsCycle h fun hn => hb hn.1, ?_⟩
  obtain ⟨w, v, rfl, rfl | ⟨hi, _⟩ | ⟨_, rfl, _⟩ | ⟨hi, _⟩⟩ := exec_cases h
  · exact SameConfig.refl w
  · exact absurd hi hb
  · exact SameConfig.refl s
  · exact absurd hi hb

/-- A busy edge without reset is the state rule over an operation that leaves the decode cycle; the configuration stays
(70_reset_and_hazards.md R276). -/
theorem step_of_busy {s : State} (hb : s.state ≠ .idle) (hr : s.input.rst = false) :
    ∃ u, step s = .next (nextEdge s (applyTransition (stateRule s) s u)) ∧ KeepsCycle s u
      ∧ SameConfig s (nextEdge s (applyTransition (stateRule s) s u)) := by
  obtain ⟨u, hu⟩ := exec_eq_busCycle (fetch_slot_wellFormed s).2 s
  obtain ⟨hk, hc⟩ := exec_of_busy hb hu
  exact ⟨_, step_of_exec hr hu, hk, hc.trans (sameConfig_finishEdge s _)⟩

theorem input_of_inputs_cons {s : State} {e : EdgeInput} {es : List EdgeInput} (h : s.inputs = e :: es) :
    s.input = e := by
  rw [State.input, h]

theorem inputs_of_step_cons {s t : State} {e : EdgeInput} {es : List EdgeInput} (h : s.inputs = e :: es)
    (hstep : step s = .next t) : t.inputs = es := by
  rw [step_inputs hstep, h, List.tail_cons]

/-- A run of edges without reset, on each of which the state rule holds, leaves the decode cycle and the configuration. -/
theorem runEdges_of_hold {s : State} {es rest : List EdgeInput} (hb : s.state ≠ .idle)
    (hin : s.inputs = es ++ rest) (hr : ∀ e ∈ es, e.rst = false)
    (hh : ∀ t, KeepsCycle s t → SameConfig s t → t.input ∈ es → stateRule t = .hold) :
    ∃ t, runEdges es.length s = .next t ∧ KeepsCycle s t ∧ SameConfig s t ∧ t.inputs = rest := by
  induction es generalizing s with
  | nil => exact ⟨s, rfl, .refl s, .refl s, hin⟩
  | cons e es ih =>
    have hhead : s.input ∈ e :: es := input_of_inputs_cons hin ▸ List.mem_cons_self
    obtain ⟨u, hstep, hku, hc⟩ := step_of_busy hb (hr _ hhead)
    rw [hh s (.refl s) (.refl s) hhead, applyTransition_hold] at hstep hc
    have hk : KeepsCycle s (nextEdge s u) := hku.withEnv _ _
    obtain ⟨t, hrun, hkt, hct, hint⟩ := ih (hk.state ▸ hb) (inputs_of_step_cons hin hstep)
      (fun a ha => hr a (List.mem_cons_of_mem e ha))
      fun v hkv hcv hv => hh v (hk.trans hkv) (hc.trans hcv) (List.mem_cons_of_mem e hv)
    exact ⟨t, (runEdges_succ _ hstep).trans hrun, hk.trans hkt, hc.trans hct, hint⟩

/-! One pulse. -/

/-- The state rule in BIT_WAIT_HIGH on an edge that sees low in time (40_decoder.md R132). -/
theorem stateRule_of_low {s : State} (hs : s.state = .bitWaitHigh) (hl : s.line = false)
    (ht : elapsed s < s.cfgTimeout) : stateRule s = .hold := by
  simp [stateRule, hs, waitFor, hl, BitVec.not_le.mpr ht]

/-- The state rule in BIT_WAIT_HIGH on an edge that sees high (40_decoder.md R132). -/
theorem stateRule_of_rise {s : State} (hs : s.state = .bitWaitHigh) (hl : s.line = true) :
    stateRule s = .enter .bitMeasure := by
  simp [stateRule, hs, waitFor, hl]

/-- The state rule in BIT_MEASURE on an edge that sees high in time (40_decoder.md R133). -/
theorem stateRule_of_high {s : State} (hs : s.state = .bitMeasure) (hl : s.line = true)
    (ht : elapsed s < s.cfgTimeout) : stateRule s = .hold := by
  simp [stateRule, hs, measureRule, hl, BitVec.not_le.mpr ht]

/-- The state rule in BIT_MEASURE on the fall of a plausible pulse (40_decoder.md R133). -/
theorem stateRule_of_fall {s : State} {b : Bool} (hs : s.state = .bitMeasure) (hl : s.line = false)
    (hc : classify s (elapsed s) = if b then .one else .zero) : stateRule s = takeBit b s := by
  simp only [stateRule, hs, measureRule, hl, if_true, fall, hc]
  cases b <;> rfl

/-- BitCapture stands in `q` since `m`, with `n` bits captured into `f`. -/
structure InBit (s : State) (q : FsmState) (m : Word) (f : Frame) (n : BitVec 6) : Prop where
  state : s.state = q
  tMark : s.tMark = m
  shift : s.shift = f
  bitCnt : s.bitCnt = n

/-- The cycle has ended with the frame `f` (40_decoder.md R134). -/
structure Committed (s : State) (f : Frame) : Prop where
  state : s.state = .idle
  done : s.done = true
  frameValid : s.frameValid = true
  bitCnt : s.bitCnt = 40
  frame : s.frame = f
  result : s.result = frameResult f

section
variable {s : State} {q : FsmState} {m : Word} {f : Frame} {n : BitVec 6} {b : Bool}

theorem InBit.of_keepsCycle {t : State} (h : InBit s q m f n) (hk : KeepsCycle s t) : InBit t q m f n :=
  ⟨hk.state.trans h.state, hk.tMark.trans h.tMark, hk.shift.trans h.shift, hk.bitCnt.trans h.bitCnt⟩

/-- The rise begins the measurement. -/
theorem step_of_rise (h : InBit s .bitWaitHigh m f n) (hr : s.input.rst = false) (hl : s.line = true) :
    ∃ t, step s = .next t ∧ InBit t .bitMeasure s.now f n ∧ SameConfig s t := by
  obtain ⟨u, hstep, hk, hc⟩ := step_of_busy (by simp [h.state]) hr
  rw [stateRule_of_rise h.state hl] at hstep hc
  exact ⟨_, hstep, ⟨rfl, rfl, hk.shift.trans h.shift, hk.bitCnt.trans h.bitCnt⟩, hc⟩

/-- The fall of a plausible pulse takes its bit: the fortieth commits, any other begins the next bit's wait. -/
theorem step_of_fall (h : InBit s .bitMeasure m f n) (hr : s.input.rst = false) (hl : s.line = false)
    (hc : classify s (s.now - m) = if b then .one else .zero) :
    ∃ t, step s = .next t ∧ SameConfig s t ∧ (n ≠ 39 → InBit t .bitWaitHigh s.now (shiftIn f b) (n + 1))
      ∧ (n = 39 → Committed t (shiftIn f b)) := by
  obtain ⟨hstate, rfl, rfl, rfl⟩ := h
  obtain ⟨u, hstep, _, hconfig⟩ := step_of_busy (by simp [hstate]) hr
  rw [stateRule_of_fall hstate hl hc] at hstep hconfig
  refine ⟨_, hstep, hconfig, fun hn => ?_, fun hn => ?_⟩
  · rw [takeBit, if_neg hn]
    exact ⟨rfl, rfl, rfl, rfl⟩
  · rw [takeBit, if_pos hn]
    exact ⟨rfl, rfl, rfl, rfl, rfl, rfl⟩

variable {p : Pulse} {rest : List EdgeInput}

/-- A timely pulse is followed up to its fall: neither of its phases times out. -/
theorem runEdges_to_fall (h : InBit s .bitWaitHigh m f n) (hin : s.inputs = p.edges ++ rest)
    (ht : p.Timely s.cfgTimeout m) :
    ∃ t, runEdges (p.lows.length + (p.highs.length + 1)) s = .next t ∧ InBit t .bitMeasure p.rise.nowUs f n
      ∧ SameConfig s t ∧ t.inputs = p.fall :: rest := by
  obtain ⟨hlows, ⟨hriseRst, hriseLine⟩, hhighs, _⟩ := ht
  have hin' : s.inputs = p.lows ++ p.rise :: (p.highs ++ p.fall :: rest) := by rw [hin, Pulse.edges]; simp
  obtain ⟨t, hrunLow, hkt, hct, hint⟩ := runEdges_of_hold (by simp [h.state]) hin' (fun e he => (hlows e he).1) <| by
    intro t hk hc he
    obtain ⟨_, hline, htime⟩ := hlows _ he
    refine stateRule_of_low (h.of_keepsCycle hk).state hline ?_
    rwa [elapsed, (h.of_keepsCycle hk).tMark, hc.1]
  have htinput := input_of_inputs_cons hint
  obtain ⟨u, hstep, hu, hcu⟩ := step_of_rise (h.of_keepsCycle hkt) (htinput ▸ hriseRst)
    (by rw [State.line, htinput, hriseLine])
  rw [State.now, htinput] at hu
  obtain ⟨v, hrunHigh, hkv, hcv, hinv⟩ :=
    runEdges_of_hold (by simp [hu.state]) (inputs_of_step_cons hint hstep) (fun e he => (hhighs e he).1) <| by
      intro v hk hc he
      obtain ⟨_, hline, htime⟩ := hhighs _ he
      refine stateRule_of_high (hu.of_keepsCycle hk).state hline ?_
      rwa [elapsed, (hu.of_keepsCycle hk).tMark, hc.1, hcu.1, hct.1]
  refine ⟨v, ?_, hu.of_keepsCycle hkv, (hct.trans hcu).trans hcv, hinv⟩
  rw [runEdges_append _ _ hrunLow, runEdges_succ _ hstep, hrunHigh]

/-- Classification reads the configuration and nothing else of the state (40_decoder.md R122). -/
theorem classify_of_sameConfig {t : State} (h : SameConfig s t) (d : Word) : classify t d = classify s d := by
  obtain ⟨_, _, _, h0min, h0max, h1min, h1max⟩ := h
  rw [classify, h0min, h0max, h1min, h1max, classify]

/-- A timely and plausible pulse gives its bit: the fortieth commits, any other begins the next bit's wait. -/
theorem runEdges_pulse (h : InBit s .bitWaitHigh m f n) (hin : s.inputs = p.edges ++ rest)
    (ht : p.Timely s.cfgTimeout m) (hc : classify s p.width = if b then .one else .zero) :
    ∃ t, runEdges p.edges.length s = .next t ∧ t.inputs = rest ∧ SameConfig s t
      ∧ (n ≠ 39 → InBit t .bitWaitHigh p.fall.nowUs (shiftIn f b) (n + 1)) ∧ (n = 39 → Committed t (shiftIn f b)) := by
  obtain ⟨t, hrun, htbit, hct, hint⟩ := runEdges_to_fall h hin ht
  obtain ⟨_, _, _, hfallRst, hfallLine⟩ := ht
  have htinput := input_of_inputs_cons hint
  have hnow : t.now = p.fall.nowUs := by rw [State.now, htinput]
  rw [← classify_of_sameConfig hct, Pulse.width, ← hnow] at hc
  obtain ⟨u, hstep, hcu, htaken⟩ := step_of_fall htbit (htinput ▸ hfallRst) (by rw [State.line, htinput, hfallLine]) hc
  rw [hnow] at htaken
  refine ⟨u, ?_, inputs_of_step_cons hint hstep, hct.trans hcu, htaken⟩
  have hlen : p.edges.length = p.lows.length + (p.highs.length + 1) + 1 := by simp [Pulse.edges]; omega
  rw [hlen, runEdges_append _ _ hrun, runEdges_succ _ hstep, runEdges_zero]

/-! The train. -/

/-- What a train sends depends on the configuration and nothing else of the state. -/
theorem sends_of_sameConfig {t : State} (h : SameConfig s t) {ps : List Pulse} {bits : List Bool}
    (hsends : Sends s m ps bits) : Sends t m ps bits := by
  induction bits generalizing ps m with
  | nil => cases ps <;> exact hsends
  | cons b bits ih =>
    cases ps with
    | nil => exact hsends
    | cons p ps =>
      obtain ⟨htimely, hclass, htail⟩ := hsends
      exact ⟨h.1 ▸ htimely, (classify_of_sameConfig h _).trans hclass, ih htail⟩

/-- The pulses that bring the count to forty commit the frame their bits assemble. -/
theorem runEdges_train {ps : List Pulse} {bits : List Bool} (h : InBit s .bitWaitHigh m f n)
    (hcount : n.toNat + bits.length = 40) (hn : n.toNat < 40) (hin : s.inputs = ps.flatMap Pulse.edges ++ rest)
    (hsends : Sends s m ps bits) :
    ∃ t, runEdges (ps.flatMap Pulse.edges).length s = .next t ∧ Committed t (bits.foldl shiftIn f) ∧ t.inputs = rest
      ∧ SameConfig s t := by
  induction bits generalizing s ps m f n with
  | nil => rw [List.length_nil] at hcount; omega
  | cons b bits ih =>
    cases ps with
    | nil => exact hsends.elim
    | cons p ps =>
      obtain ⟨htimely, hclass, htail⟩ := hsends
      rw [List.length_cons] at hcount
      rw [List.flatMap_cons, List.append_assoc] at hin
      obtain ⟨t, hrun, hint, hct, hcapture, hcommit⟩ := runEdges_pulse h hin htimely hclass
      rw [List.flatMap_cons, List.length_append, runEdges_append _ _ hrun]
      by_cases h39 : n = 39
      · obtain rfl : bits = [] := by
          have hlast : n.toNat = 39 := by rw [h39]; rfl
          exact List.eq_nil_of_length_eq_zero (by omega)
        cases ps with
        | nil => exact ⟨t, rfl, hcommit h39, hint, hct⟩
        | cons p ps => exact htail.elim
      · have hsucc : (n + 1).toNat = n.toNat + 1 ∧ n.toNat + 1 < 40 := by bv_omega
        obtain ⟨u, hrun', hu, hinu, hcu⟩ :=
          ih (hcapture h39) (by omega) (by omega) hint (sends_of_sameConfig hct htail)
        exact ⟨u, hrun', hu, hinu, hct.trans hcu⟩

end

/-- Settles O52: from no bit on, the train of forty commits the frame of its bits. -/
theorem pulseTrainIsReconstructed : Obligations.PulseTrainIsReconstructed := by
  intro s ps bits rest hs hn hlen hin hsends
  obtain ⟨t, hrun, ⟨hidle, hdone, hvalid, hcnt, hframe, hresult⟩, hint, hconfig⟩ :=
    runEdges_train ⟨hs, rfl, rfl, hn⟩ (by rw [hlen]; rfl) (by decide) hin hsends
  refine ⟨t, hrun, hidle, hdone, hvalid, hcnt, fun i hi => ?_, hframe ▸ hresult, hint, hconfig⟩
  rw [hframe, getLsbD_foldl_shiftIn_forty s.shift hlen hi]

end Sys2Proof.Machine
end

section
/-! The state rules one edge at a time (40_decoder.md R120 to R133): the helper functions of the decoder, the edge of a busy
SWPD as the state rule over `busyEdge`, and the edge of an idle one. -/

namespace Sys2Proof.Machine

/-! The helper functions. -/

/-- Settles O27. -/
theorem elapsedIsTheModularDifference : Obligations.ElapsedIsTheModularDifference := by
  intro s
  rw [elapsed, BitVec.toNat_sub]
  omega

/-- Membership in an inclusive range, as numbers. -/
theorem inRange_iff_toNat (lo hi d : Word) : (lo ≤ d ∧ d ≤ hi) ↔ (lo.toNat ≤ d.toNat ∧ d.toNat ≤ hi.toNat) := Iff.rfl

/-- The classes under the reset configuration (40_decoder.md R122). -/
theorem classify_of_resetConfig {s : State} (h : SameConfig State.reset s) (d : Word) :
    classify s d = if 40 ≤ d.toNat ∧ d.toNat ≤ 50 then .zero else if 65 ≤ d.toNat ∧ d.toNat ≤ 75 then .one else .malformed :=
  classify_of_sameConfig h d

/-- Settles O28: of the three cases of `classify` each excludes the other two. -/
theorem classifyFollowsTheRanges : Obligations.ClassifyFollowsTheRanges := by
  refine ⟨fun s d => ?_, fun s d hreset => ?_⟩
  · simp only [← inRange_iff_toNat]
    obtain ⟨h0, hc⟩ | ⟨h0, h1, hc⟩ | ⟨h0, h1, hc⟩ := classify_cases s d
    · simp [hc, h0]
    · simp [hc, h0, h1]
    · simp [hc, h0, h1]
  · rw [classify_of_resetConfig hreset d]
    grind

/-- Settles O29: one shift bit by bit, and forty by `getLsbD_foldl_shiftIn_forty`. -/
theorem fortyShiftsAssembleTheFrame : Obligations.FortyShiftsAssembleTheFrame :=
  ⟨fun f b => ⟨getLsbD_shiftIn_zero f b, fun _ hj => getLsbD_shiftIn_succ f b hj⟩,
    fun f _ hlen _ hi => getLsbD_foldl_shiftIn_forty f hlen hi⟩

/-! The operation and the state rule at one edge. -/

/-- Settles O6. -/
theorem stepRunsDecodedOperation : Obligations.StepRunsDecodedOperation := by
  rintro s h i hr rfl hexec
  exact step_of_exec hr hexec

/-- Every operation completes in every state, ill-formed terms included (log entry 16). -/
theorem exec_completes (i : Instr) (s : State) : ∃ t, exec i s = .next t := by
  cases i <;> exact ⟨_, rfl⟩

theorem step_completes (s : State) : ∃ t, step s = .next t := by
  obtain ⟨t, ht, _⟩ := step_shows_slot s
  exact ⟨t, ht⟩

/-- Settles O7. -/
theorem everyEdgeHasANextState : Obligations.EveryEdgeHasANextState := ⟨exec_completes, step_completes⟩

/-- STATUS of a cycle that has just begun: BUSY, LINE_OE and state 1 (40_decoder.md R126). -/
theorem statusValue_beginDecode (s : State) : statusValue (beginDecode s) = 0x00000111 := by
  simp only [statusValue, chkOk, lineOe, busy, beginDecode_state, beginDecode_frameValid, beginDecode_bitCnt,
    beginDecode_done, beginDecode_result, Bool.false_and]
  decide

/-- Settles O18: both clauses are the two sides of a write that takes effect only while idle. -/
theorem startBeginsACycleOnlyWhenIdle : Obligations.StartBeginsACycleOnlyWhenIdle := by
  refine fun s d => ⟨fun hi => ?_, fun hb => ?_⟩
  · obtain ⟨t, ht⟩ := exec_completes (.start d) s
    obtain rfl := exec_start_of_idle hi ht
    exact ⟨_, ht, rfl, statusValue_beginDecode s⟩
  · exact idleWrite_next.mpr (by simp [busy_eq_true.mpr hb, ctrlValue])

/-! The edge of a busy SWPD. -/

/-- While busy a well-formed operation that is not CLEAR does nothing but show its slot (42_register_access.md R205). -/
theorem exec_of_busy_of_not_clear {i : Instr} {s : State} (hw : wellFormed i = true) (hb : s.state ≠ .idle)
    (hc : isClear i = false) : exec i s = .next (s.withBusRdata (readValue i.slot s)) := by
  obtain ⟨u, hu⟩ := exec_eq_busCycle hw s
  obtain ⟨w, v, hwv, rfl | ⟨hi, _⟩ | ⟨_, _, d, rfl⟩ | ⟨hi, _⟩⟩ := exec_cases hu
  · have hv : readValue i.slot w = v := congrArg State.busRdata hwv
    rw [hu, hv]
    exact busCycle_next.mpr (hv ▸ hwv.symm)
  · exact absurd hi hb
  · simp [isClear] at hc
  · exact absurd hi hb

theorem isClear_eq_true {i : Instr} : isClear i = true ↔ ∃ d, i = .clear d := by
  cases i <;> simp [isClear]

/-- A transition that ends the cycle sets `done` whatever it was. -/
theorem applyTransition_withDone {t : Transition} (ht : t.completes = true) (pre h : State) (v : Bool) :
    applyTransition t pre (h.withDone v) = applyTransition t pre h := by
  cases t
  case commit f => rfl
  case fail e => rfl
  all_goals cases ht

/-- The state rule leaves the inputs, so that they may be passed on before it acts. -/
theorem nextEdge_applyTransition (t : Transition) (pre h : State) :
    nextEdge pre (applyTransition t pre h) = applyTransition t pre (nextEdge pre h) := by
  cases t <;> rfl

/-- An edge of a busy SWPD is the state rule over `busyEdge`: a CLEAR on the edge that ends the cycle is lost, and
`busyEdge` may clear `done` there all the same, since the state rule sets it. -/
theorem step_eq_busyEdge {s : State} (hb : s.state ≠ .idle) (hr : s.input.rst = false) :
    step s = .next (applyTransition (stateRule s) s (busyEdge s)) := by
  obtain ⟨hslot, hwf⟩ := fetch_slot_wellFormed s
  cases hc : isClear (fetch s)
  · have hexec := exec_of_busy_of_not_clear hwf hb hc
    rw [step_of_exec hr hexec, finishEdge, nextEdge_applyTransition, hslot, busyEdge, hc, Bool.not_false, Bool.and_true]
    rfl
  · obtain ⟨d, hd⟩ := isClear_eq_true.mp hc
    have hshown : readValue (busSlot s.input) s = ctrlValue := by rw [← hslot, hd]; rfl
    have hexec : exec (fetch s) s = busCycle ctrlValue (if (stateRule s).completes then s else acknowledge s) := by
      rw [hd]; rfl
    rw [step_of_exec hr hexec, finishEdge, nextEdge_applyTransition, busyEdge, hc, Bool.not_true, Bool.and_false, hshown]
    cases hends : (stateRule s).completes
    · rfl
    · exact congrArg _ (applyTransition_withDone hends s (nextEdge s (s.withBusRdata ctrlValue)) false).symm

/-! The rule of each state. -/

theorem applyTransition_dwell (bound : Word) (next : FsmState) (s h : State) :
    applyTransition (dwell bound next s) s h
      = if bound ≤ elapsed s then (h.withState next).withMark s.now else h := by
  unfold dwell
  split <;> rfl

theorem applyTransition_waitFor (level : Bool) (next : FsmState) (err : DecodeError) (s h : State) :
    applyTransition (waitFor level next err s) s h
      = if s.line = level then (h.withState next).withMark s.now
        else if s.cfgTimeout ≤ elapsed s then errorLatch err s.state h else h := by
  unfold waitFor
  split
  · rfl
  · split <;> rfl

/-- Settles O35. -/
theorem hostStartDwells : Obligations.HostStartDwells := by
  refine fun s hr => ⟨fun hs => ?_, fun hs => ?_⟩
  · rw [step_eq_busyEdge (by simp [hs]) hr, stateRule, hs]
    exact congrArg _ (applyTransition_dwell _ _ _ _)
  · rw [step_eq_busyEdge (by simp [hs]) hr, stateRule, hs]
    exact congrArg _ (applyTransition_dwell _ _ _ _)

/-- A state whose rule is a wait for a level of the line (40_decoder.md R121). -/
theorem step_of_wait {s : State} {level : Bool} {next : FsmState} {err : DecodeError} (hb : s.state ≠ .idle)
    (hr : s.input.rst = false) (hw : stateRule s = waitFor level next err s) :
    step s = .next
      (if s.line = level then ((busyEdge s).withState next).withMark s.now
      else if s.cfgTimeout ≤ elapsed s then
        (((busyEdge s).withState .idle).withOutcome err.result true).withError err.bit s.state err.dur
      else busyEdge s) := by
  rw [step_eq_busyEdge hb hr, hw, applyTransition_waitFor]
  rfl

/-- Settles O36: the three waits by their state, the level awaited and the state it leads to. -/
theorem handshakeWaits : Obligations.HandshakeWaits := by
  intro s hr w hw hs
  have hwait : s.state ≠ .idle ∧ stateRule s = waitFor w.2.1 w.2.2 .noResponse s := by
    simp only [List.mem_cons, List.not_mem_nil, or_false] at hw
    obtain rfl | rfl | rfl := hw <;> simp [stateRule, hs]
  rw [step_of_wait hwait.1 hr hwait.2, hs]
  rfl

/-- Settles O37. -/
theorem bitWaitTakesTheRise : Obligations.BitWaitTakesTheRise := by
  intro s hr hs
  have hw : stateRule s = waitFor true .bitMeasure (.timeout s.bitCnt) s := by simp [stateRule, hs]
  rw [step_of_wait (by simp [hs]) hr hw, hs]
  rfl

/-- The state rule in BIT_MEASURE on the fall of a malformed pulse (40_decoder.md R133). -/
theorem stateRule_of_malformed {s : State} (hs : s.state = .bitMeasure) (hl : s.line = false)
    (hc : classify s (elapsed s) = .malformed) : stateRule s = .fail (.invalidPulse s.bitCnt (elapsed s)) := by
  simp [stateRule, hs, measureRule, hl, fall, hc]

/-- The state rule in BIT_MEASURE on an edge that still sees high at the timeout (40_decoder.md R133). -/
theorem stateRule_of_stuckHigh {s : State} (hs : s.state = .bitMeasure) (hl : s.line = true)
    (ht : s.cfgTimeout ≤ elapsed s) : stateRule s = .fail (.timeout s.bitCnt) := by
  simp [stateRule, hs, measureRule, hl, ht]

/-- Settles O38: the five outcomes of a measurement, each by its state rule. -/
theorem bitMeasureClassifiesAtTheFall : Obligations.BitMeasureClassifiesAtTheFall := by
  intro s hr hs
  rw [step_eq_busyEdge (by simp [hs]) hr]
  refine ⟨fun hl hc => ?_, fun b hl hc h39 _ => ?_, fun b hl hc h39 => ?_, fun hl ht => ?_, fun hl ht => ?_⟩
  · rw [stateRule_of_malformed hs hl hc, applyTransition_fail, hs]
    rfl
  · rw [stateRule_of_fall hs hl hc, takeBit, if_neg h39]
    rfl
  · rw [stateRule_of_fall hs hl hc, takeBit, if_pos h39]
    rfl
  · rw [stateRule_of_stuckHigh hs hl ht, applyTransition_fail, hs]
    rfl
  · rw [stateRule_of_high hs hl ht]
    rfl

/-! The edge of an idle SWPD. -/

/-- While idle no operation but START reads the inputs (40_decoder.md R125). -/
theorem exec_withEnv_of_idle {i : Instr} {s u : State} (l : List EdgeInput) (k : Nat) (hi : s.state = .idle)
    (hs : isStart i = false) (h : exec i s = .next u) : exec i (s.withEnv l k) = .next (u.withEnv l k) := by
  cases i
  case start d => cases hs
  case clear d =>
    have hi' : (s.withEnv l k).state = .idle := hi
    rw [busCycle_next.mp h, exec, execClear, stateRule_idle hi, stateRule_idle hi']
    rfl
  case wrTimeout | wrStartLow | wrRelease | wrBit0Min | wrBit0Max | wrBit1Min | wrBit1Max =>
    exact idleWrite_withEnv l k h
  all_goals rw [busCycle_next.mp h]; rfl

/-- Without a START the edge of an idle SWPD is the same under any timestamp and level of the line. -/
theorem step_withWire_of_idle {s : State} (now : Word) (line : Bool) (hi : s.state = .idle)
    (hs : isStart (fetch s) = false) : step (s.withWire now line) = step s := by
  obtain ⟨t, ht⟩ := step_completes s
  rw [ht]
  obtain ⟨hr, rfl⟩ | ⟨hr, u, hu, rfl⟩ := step_cases ht
  · exact step_of_rst hr
  · have hi' : (s.withWire now line).state = .idle := hi
    have hexec : exec (fetch (s.withWire now line)) (s.withWire now line) = .next _ := exec_withEnv_of_idle _ _ hi hs hu
    rw [step_of_exec (s := s.withWire now line) hr hexec, finishEdge, finishEdge, stateRule_idle hi, stateRule_idle hi']
    rfl

/-- Without a START and reset an idle SWPD keeps the decode cycle's registers but for `done`. -/
theorem keepsCycle_of_idle {s t : State} (hi : s.state = .idle) (hr : s.input.rst = false)
    (hs : isStart (fetch s) = false) (h : step s = .next t) : KeepsCycle s t := by
  obtain ⟨hr', _⟩ | ⟨_, hs', _⟩ | ⟨_, u, hk, rfl⟩ := step_cycle_cases h
  · simp [hr] at hr'
  · simp [hs] at hs'
  · rw [stateRule_idle hi]
    exact hk.withEnv _ _

/-- Settles O34. -/
theorem idleSamplesNothing : Obligations.IdleSamplesNothing := by
  intro s now now' line line' hi hs
  rw [step_withWire_of_idle now line hi hs, step_withWire_of_idle now' line' hi hs]
  refine ⟨rfl, fun hr => ?_⟩
  obtain ⟨t, ht⟩ := step_completes s
  obtain ⟨hstate, hmark, hshift, hframe, hvalid, hcnt, hresult, hbit, hestate, hdur, _⟩ := keepsCycle_of_idle hi hr hs ht
  exact ⟨t, ht, hstate.trans hi, hmark, hshift, hframe, hvalid, hcnt, hresult, hbit, hestate, hdur⟩

end Sys2Proof.Machine
end

section
/-! What holds over a whole decode cycle (40_decoder.md R133, R135, R136): the line is released where a cycle ends, the
frame is complete or absent, and a timely pulse gives its bit. -/

namespace Sys2Proof.Machine

/-- An error is raised in one of the five states that wait for the line (60_exceptions.md R242 to R244). -/
theorem state_of_fail {s : State} {e : DecodeError} (he : stateRule s = .fail e) :
    s.state ∈ [FsmState.hsWaitLow, .hsWaitHigh, .hsWaitData, .bitWaitHigh, .bitMeasure] := by
  obtain ⟨_, hr⟩ | ⟨_, hr⟩ | ⟨next, hr, _⟩ | ⟨_, _, _, b, _, hr⟩ | ⟨_, _, _, b, _, hr⟩ | ⟨hs, _⟩ | ⟨hs, _⟩ | ⟨hs, _⟩ :=
    stateRule_cases s
  · simp [hr] at he
  · simp [hr] at he
  · simp [hr] at he
  · simp [hr] at he
  · simp [hr] at he
  · exact List.mem_append_left [FsmState.bitWaitHigh, .bitMeasure] hs
  · exact List.mem_append_right [FsmState.hsWaitLow, .hsWaitHigh, .hsWaitData] hs
  · simp [hs]

theorem busy_of_fail {s : State} {e : DecodeError} (he : stateRule s = .fail e) : s.state ≠ .idle := by
  intro hi
  simp [stateRule_idle hi] at he

/-- The edge that raises an error. -/
theorem step_of_fail {s : State} {e : DecodeError} (hr : s.input.rst = false) (he : stateRule s = .fail e) :
    step s = .next (errorLatch e s.state (busyEdge s)) := by
  rw [step_eq_busyEdge (busy_of_fail he) hr, he, applyTransition_fail]

/-! The line. -/

theorem lineOe_eq_false {s : State} (h : s.state ≠ .startLow) : lineOe s = false :=
  Bool.eq_false_iff.mpr ((lineOe_iff s).not.mpr h)

/-- START_LOW is left to START_REL only, reset apart. -/
theorem state_after_startLow {s t : State} (hr : s.input.rst = false) (h : step s = .next t) (hs : s.state = .startLow) :
    t.state = .startLow ∨ t.state = .startRel := by
  obtain ⟨hnext, _⟩ := transitionsFollowTheProtocol s t hr h
  simpa [hs] using hnext

/-- Reset leads to IDLE. -/
theorem state_after_reset {s t : State} (hr : s.input.rst = true) (h : step s = .next t) : t.state = .idle := by
  rw [step_of_rst hr] at h
  exact Host.Outcome.next.inj h ▸ rfl

/-- Settles O41: no state that drives the line leads to IDLE but by reset, and no such state raises an error. -/
theorem lineReleasedOnEveryExit : Obligations.LineReleasedOnEveryExit := by
  refine fun s t h => ⟨fun hs hne => ?_, fun _ hidle => ⟨lineOe_eq_false (by simp [hidle]), ?_⟩, fun hr e he => ?_⟩
  · cases hr : s.input.rst
    · exact .inl ((state_after_startLow hr h hs).resolve_left hne)
    · exact .inr ⟨rfl, state_after_reset hr h⟩
  · cases hr : s.input.rst
    · refine .inl (lineOe_eq_false fun hs => ?_)
      simpa [hidle] using state_after_startLow hr h hs
    · exact .inr rfl
  · rw [step_of_fail hr he] at h
    obtain rfl := Host.Outcome.next.inj h
    have hs := state_of_fail he
    exact ⟨lineOe_eq_false fun hlow => by simp [hlow] at hs, rfl⟩

/-! The frame. -/

theorem dataValue_of_noFrame {s : State} (h : s.frame = 0) : dataValue s = 0 ∧ checkValue s = 0 := by
  rw [dataValue, checkValue, h]
  decide

/-- What an edge does to the frame and its flag, over any operation that leaves the decode cycle: only the commit of a
fortieth bit writes them (40_decoder.md R134). -/
theorem frame_applyTransition {s u : State} (hk : KeepsCycle s u) :
    ((applyTransition (stateRule s) s u).frame = s.frame ∧ (applyTransition (stateRule s) s u).frameValid = s.frameValid)
      ∨ (s.state = .bitMeasure ∧ s.bitCnt = 39 ∧ s.line = false
        ∧ ∃ b : Bool, classify s (elapsed s) = (if b then .one else .zero)
          ∧ stateRule s = .commit (shiftIn s.shift b)) := by
  obtain ⟨_, hr⟩ | ⟨_, hr⟩ | ⟨next, hr, _⟩ | ⟨_, _, _, b, _, hr⟩ | ⟨hs, hl, h39, hb⟩ | ⟨_, hr⟩ | ⟨_, hr⟩ | ⟨_, hr⟩ :=
    stateRule_cases s
  case inr.inr.inr.inr.inl => exact .inr ⟨hs, h39, hl, hb⟩
  all_goals rw [hr]; exact .inl ⟨hk.frame, hk.frameValid⟩

/-- Settles O42: the frame by the three ways an edge treats the decode cycle, the zero frame of the facts beside an error,
and no slot that reads the assembly register. -/
theorem frameChangesOnlyAtStartCommitAndReset : Obligations.FrameChangesOnlyAtStartCommitAndReset := by
  refine fun s t h => ⟨?_, fun hf hv => dataValue_of_noFrame (hf.noFrame_zero hv), fun hf hr ⟨e, he⟩ => ?_, fun _ _ => rfl⟩
  · obtain ⟨hr, hk⟩ | ⟨hi, hs, hk⟩ | ⟨_, u, hk, rfl⟩ := step_cycle_cases h
    · exact .inr (.inl ⟨hr, hk.frame, hk.frameValid⟩)
    · exact .inr (.inr (.inl ⟨hi, hs, hk.frame, hk.frameValid⟩))
    · obtain hkeep | ⟨hs, h39, hl, b, hc, hrule⟩ := frame_applyTransition hk
      · exact .inl hkeep
      · rw [hrule]
        exact .inr (.inr (.inr ⟨hs, h39, hl, rfl, rfl, b, hc, rfl⟩))
  · rw [step_of_fail hr he] at h
    obtain rfl := Host.Outcome.next.inj h
    obtain ⟨_, hv, hz, _⟩ := (reachableFacts_busy_iff (busy_of_fail he)).mp hf
    exact ⟨hv, dataValue_of_noFrame hz⟩

/-! A pulse. -/

/-- Settles O51: the pulse of a bit before the fortieth. -/
theorem timelyPulseIsCaptured : Obligations.TimelyPulseIsCaptured := by
  intro s p b rest hs hn hin htimely hclass
  have h39 : s.bitCnt ≠ 39 := fun h => by simp [h] at hn
  obtain ⟨t, hrun, hint, hconfig, hcapture, _⟩ := runEdges_pulse ⟨hs, rfl, rfl, rfl⟩ hin htimely hclass
  obtain ⟨hstate, hmark, hshift, hcnt⟩ := hcapture h39
  exact ⟨t, hrun, hstate, hcnt, hshift, hmark, hint, hconfig⟩

end Sys2Proof.Machine
end

section
/-! The bound on a decode cycle (40_decoder.md R137): how an edge leaves a phase, the time a phase takes, and the time a
cycle has left at the start of each of its phases. -/

namespace Sys2Proof.Machine

/-! The edge that leaves a phase. -/

/-- How an edge at `now` leads from a phase of a decode cycle to `t`. -/
inductive PhaseExit (s t : State) (now : Word) : Prop where
  /-- The next phase begins. -/
  | begins (hnext : (s.state, t.state) ∈ phaseOrder) (hmark : t.tMark = now) (hcnt : t.bitCnt = s.bitCnt)
  /-- A bit before the fortieth is taken, and the wait of the next begins. -/
  | captures (hmeasure : s.state = .bitMeasure) (hwait : t.state = .bitWaitHigh) (hmark : t.tMark = now)
      (h39 : s.bitCnt ≠ 39) (hcnt : t.bitCnt = s.bitCnt + 1)
  /-- The cycle ends. -/
  | ends (hbusy : s.state ≠ .idle) (hidle : t.state = .idle) (hdone : t.done = true)

theorem PhaseExit.state_ne {s t : State} {now : Word} (h : PhaseExit s t now) : t.state ≠ s.state := by
  cases h with
  | begins hnext =>
    intro he
    rw [he] at hnext
    generalize s.state = q at hnext
    cases q <;> simp [phaseOrder] at hnext
  | captures hmeasure hwait => simp [hmeasure, hwait]
  | ends hbusy hidle => rw [hidle]; exact hbusy.symm

/-- An exit from a phase is one from every state in which the phase went on before. -/
theorem PhaseExit.of_keepsCycle {s u t : State} {now : Word} (hk : KeepsCycle s u) (h : PhaseExit u t now) :
    PhaseExit s t now := by
  cases h with
  | begins hnext hmark hcnt => exact .begins (hk.state ▸ hnext) hmark (hcnt.trans hk.bitCnt)
  | captures hmeasure hwait hmark h39 hcnt =>
    exact .captures (hk.state ▸ hmeasure) hwait hmark (hk.bitCnt ▸ h39) (hk.bitCnt ▸ hcnt)
  | ends hbusy hidle hdone => exact .ends (hk.state ▸ hbusy) hidle hdone

theorem phaseBound_eq {s u : State} (hk : KeepsCycle s u) (hc : SameConfig s u) : phaseBound u = phaseBound s := by
  obtain ⟨hto, hsl, hrel, _⟩ := hc
  rw [phaseBound, phaseBound, hk.state, hto, hsl, hrel]

/-- A fall always does something. -/
theorem fall_ne_hold (s : State) : fall s ≠ .hold := by
  obtain ⟨_, h⟩ | ⟨_, h⟩ | ⟨_, h⟩ := fall_cases s <;> rw [h]
  · obtain ⟨_, h⟩ | ⟨_, h⟩ := takeBit_cases false s <;> simp [h]
  · obtain ⟨_, h⟩ | ⟨_, h⟩ := takeBit_cases true s <;> simp [h]
  · simp

theorem elapsed_lt_of_dwell_hold {bound : Word} {next : FsmState} {s : State} (h : dwell bound next s = .hold) :
    elapsed s < bound := by
  obtain ⟨_, he⟩ | ⟨hlt, _⟩ := dwell_cases bound next s
  · simp [he] at h
  · exact hlt

theorem elapsed_lt_of_waitFor_hold {level : Bool} {next : FsmState} {err : DecodeError} {s : State}
    (h : waitFor level next err s = .hold) : elapsed s < s.cfgTimeout := by
  obtain ⟨_, he⟩ | ⟨_, _, he⟩ | ⟨_, hlt, _⟩ := waitFor_cases level next err s
  · simp [he] at h
  · simp [he] at h
  · exact hlt

theorem elapsed_lt_of_measureRule_hold {s : State} (h : measureRule s = .hold) : elapsed s < s.cfgTimeout := by
  obtain ⟨_, he⟩ | ⟨_, _, he⟩ | ⟨_, hlt, _⟩ := measureRule_cases s
  · exact absurd (he ▸ h) (fall_ne_hold s)
  · simp [he] at h
  · exact hlt

/-- A phase goes on only below its bound. -/
theorem elapsed_lt_of_hold {s : State} (hb : s.state ≠ .idle) (h : stateRule s = .hold) :
    (elapsed s).toNat < phaseBound s := by
  unfold stateRule at h
  unfold phaseBound
  cases hs : s.state <;> simp only [hs] at h ⊢
  case idle => exact absurd hs hb
  case startLow | startRel => exact elapsed_lt_of_dwell_hold h
  case bitMeasure => exact elapsed_lt_of_measureRule_hold h
  all_goals exact elapsed_lt_of_waitFor_hold h

/-- An edge of a busy SWPD without reset goes on with the phase below its bound, or leaves it. -/
theorem busy_step_cases {s : State} (hb : s.state ≠ .idle) (hr : s.input.rst = false) :
    ∃ t, step s = .next t ∧ SameConfig s t
      ∧ ((KeepsCycle s t ∧ (elapsed s).toNat < phaseBound s) ∨ PhaseExit s t s.now) := by
  obtain ⟨u, hstep, hk, hc⟩ := step_of_busy hb hr
  refine ⟨_, hstep, hc, ?_⟩
  obtain ⟨hi, _⟩ | ⟨_, hrule⟩ | ⟨next, hrule, hnext⟩ | ⟨hs, _, h39, b, _, hrule⟩ | ⟨_, _, _, b, _, hrule⟩ | ⟨_, hrule⟩
    | ⟨_, hrule⟩ | ⟨_, hrule⟩ := stateRule_cases s
  · exact absurd hi hb
  · rw [hrule]
    exact .inl ⟨hk.withEnv _ _, elapsed_lt_of_hold hb hrule⟩
  · rw [hrule]
    exact .inr (.begins hnext rfl hk.bitCnt)
  · rw [hrule]
    exact .inr (.captures hs rfl rfl h39 rfl)
  all_goals rw [hrule]; exact .inr (.ends hb rfl rfl)

/-! The time of a phase. -/

theorem paced_cons {Δ : Nat} {t0 : Word} {e : EdgeInput} {es : List EdgeInput} :
    Paced Δ t0 (e :: es) ↔ (e.nowUs - t0).toNat ≤ Δ ∧ Paced Δ e.nowUs es := by
  simp [Paced]

/-- Two successive differences of timestamps add up when their sum does not wrap. -/
theorem toNat_sub_add_sub {m t0 now : Word} (h : (t0 - m).toNat + (now - t0).toNat < 2 ^ 32) :
    (now - m).toNat = (t0 - m).toNat + (now - t0).toNat := by
  have hsum : now - m = (t0 - m) + (now - t0) := by ring
  rw [hsum, BitVec.toNat_add, Nat.mod_eq_of_lt h]

/-- A phase that has taken `(t0 - s.tMark).toNat`, at most its bound, is left by one of the edges to come, if they are paced
and take it beyond its bound: by `last`, after the edges `l`. -/
theorem phase_left {Δ : Nat} {s : State} {t0 : Word} {es : List EdgeInput} (hb : s.state ≠ .idle)
    (hin : s.inputs = es) (hr : ∀ e ∈ es, e.rst = false) (hfit : phaseBound s + Δ < 2 ^ 32) (hp : Paced Δ t0 es)
    (hpast : (t0 - s.tMark).toNat ≤ phaseBound s)
    (hlong : phaseBound s < (t0 - s.tMark).toNat + elapsedOver t0 es) :
    ∃ l last r t, es = l ++ last :: r ∧ runEdges (l.length + 1) s = .next t ∧ SameConfig s t ∧ t.inputs = r
      ∧ PhaseExit s t last.nowUs ∧ Paced Δ last.nowUs r
      ∧ (t0 - s.tMark).toNat + elapsedOver t0 (l ++ [last]) ≤ phaseBound s + Δ := by
  induction es generalizing s t0 with
  | nil => exact absurd hlong (by simpa [elapsedOver] using hpast)
  | cons e es ih =>
    obtain ⟨hadv, hp'⟩ := paced_cons.mp hp
    have hinput := input_of_inputs_cons hin
    have htime : (e.nowUs - s.tMark).toNat = (t0 - s.tMark).toNat + (e.nowUs - t0).toNat :=
      toNat_sub_add_sub (by omega)
    obtain ⟨u, hstep, hc, ⟨hk, hlt⟩ | hexit⟩ := busy_step_cases hb (hinput ▸ hr e List.mem_cons_self)
    · rw [elapsed, State.now, hinput] at hlt
      have hbound := phaseBound_eq hk hc
      rw [elapsedOver_cons] at hlong
      obtain ⟨l, last, r, t, hes, hrun, hct, hint, hexit, hpr, hle⟩ :=
        ih (s := u) (t0 := e.nowUs) (hk.state ▸ hb) (inputs_of_step_cons hin hstep)
          (fun a ha => hr a (List.mem_cons_of_mem e ha)) (by omega) hp' (by rw [hk.tMark]; omega)
          (by rw [hk.tMark]; omega)
      rw [hk.tMark, hbound] at hle
      refine ⟨e :: l, last, r, t, by rw [hes, List.cons_append], (runEdges_succ _ hstep).trans hrun, hc.trans hct, hint,
        hexit.of_keepsCycle hk, hpr, ?_⟩
      rw [List.cons_append, elapsedOver_cons]
      omega
    · rw [State.now, hinput] at hexit
      refine ⟨[], e, es, u, rfl, runEdges_succ 0 hstep, hc, inputs_of_step_cons hin hstep, hexit, hp', ?_⟩
      have hone : elapsedOver t0 ([] ++ [e]) = (e.nowUs - t0).toNat := by simp [elapsedOver]
      omega

theorem phaseBound_fits {Δ : Nat} {s : State} (h : BoundsFit Δ s) : phaseBound s + Δ < 2 ^ 32 := by
  obtain ⟨hsl, hrel, hto⟩ := h
  unfold phaseBound
  split <;> omega

/-- A phase is left within its bound plus `Δ`, if the edges to come take as long. -/
theorem phase_left_within {Δ : Nat} {s : State} (hΔ : 1 ≤ Δ) (hb : s.state ≠ .idle) (hfit : BoundsFit Δ s)
    (hr : ∀ e ∈ s.inputs, e.rst = false) (hp : Paced Δ s.tMark s.inputs)
    (hlong : phaseBound s + Δ ≤ elapsedOver s.tMark s.inputs) :
    ∃ l last r t, s.inputs = l ++ last :: r ∧ runEdges (l.length + 1) s = .next t ∧ SameConfig s t ∧ t.inputs = r
      ∧ PhaseExit s t last.nowUs ∧ Paced Δ last.nowUs r
      ∧ elapsedOver s.tMark (l ++ [last]) ≤ phaseBound s + Δ := by
  have hzero : (s.tMark - s.tMark).toNat = 0 := by simp
  obtain ⟨l, last, r, t, hes, hrun, hc, hint, hexit, hpr, hle⟩ :=
    phase_left hb rfl hr (phaseBound_fits hfit) hp (by omega) (by omega)
  exact ⟨l, last, r, t, hes, hrun, hc, hint, hexit, hpr, by omega⟩

/-! The time of a cycle. -/

/-- How many waits for the line a cycle has before it at most, the one it stands in included: three in the handshake and
two for each bit. -/
def waitsLeft (s : State) : Nat :=
  match s.state with
  | .idle => 0
  | .startLow | .startRel | .hsWaitLow => 83
  | .hsWaitHigh => 82
  | .hsWaitData => 81
  | .bitWaitHigh => 2 * (40 - s.bitCnt.toNat)
  | .bitMeasure => 2 * (40 - s.bitCnt.toNat) - 1

/-- How long the dwells that a cycle has before it take at most. -/
def dwellTimeLeft (Δ : Nat) (s : State) : Nat :=
  match s.state with
  | .startLow => (s.cfgStartLow.toNat + Δ) + (s.cfgRelease.toNat + Δ)
  | .startRel => s.cfgRelease.toNat + Δ
  | .idle | .hsWaitLow | .hsWaitHigh | .hsWaitData | .bitWaitHigh | .bitMeasure => 0

/-- How long a cycle takes at most from the start of the phase it stands in. -/
def cycleTimeLeft (Δ : Nat) (s : State) : Nat := dwellTimeLeft Δ s + waitsLeft s * (s.cfgTimeout.toNat + Δ)

/-- At its start a cycle has its whole bound before it (40_decoder.md R137). -/
theorem cycleTimeLeft_of_startLow (Δ : Nat) {s : State} (hs : s.state = .startLow) :
    cycleTimeLeft Δ s = cycleBound Δ s := by
  simp only [cycleTimeLeft, dwellTimeLeft, waitsLeft, cycleBound, hs]
  omega

/-- A dwell is followed by as many waits as it had before it. -/
theorem cycleTimeLeft_of_dwell {Δ : Nat} {s t : State} (hc : SameConfig s t) (hwaits : waitsLeft s = waitsLeft t)
    (hdwell : dwellTimeLeft Δ s = phaseBound s + Δ + dwellTimeLeft Δ t) :
    cycleTimeLeft Δ s = phaseBound s + Δ + cycleTimeLeft Δ t := by
  rw [cycleTimeLeft, cycleTimeLeft, hdwell, hwaits, hc.1, Nat.add_assoc]

/-- A wait is followed by one wait fewer. -/
theorem cycleTimeLeft_of_wait {Δ : Nat} {s t : State} (hc : SameConfig s t) (hwaits : waitsLeft s = waitsLeft t + 1)
    (hdwell : dwellTimeLeft Δ s = dwellTimeLeft Δ t) (hbound : phaseBound s = s.cfgTimeout.toNat) :
    cycleTimeLeft Δ s = phaseBound s + Δ + cycleTimeLeft Δ t := by
  rw [cycleTimeLeft, cycleTimeLeft, hdwell, hwaits, hc.1, hbound, Nat.succ_mul]
  omega

/-- A phase that begins takes over what the one before it left of the cycle's time. -/
theorem cycleTimeLeft_of_begins {Δ : Nat} {s t : State} (hnext : (s.state, t.state) ∈ phaseOrder)
    (hcnt : t.bitCnt = s.bitCnt) (hc : SameConfig s t) (hcount : CountFits s.state s.bitCnt) :
    cycleTimeLeft Δ s = phaseBound s + Δ + cycleTimeLeft Δ t := by
  obtain ⟨hlate, hearly⟩ := hcount
  have ⟨_, _, hrel, _⟩ := hc
  simp only [phaseOrder, List.mem_cons, Prod.mk.injEq, List.not_mem_nil, or_false] at hnext
  obtain ⟨hs, ht⟩ | ⟨hs, ht⟩ | ⟨hs, ht⟩ | ⟨hs, ht⟩ | ⟨hs, ht⟩ | ⟨hs, ht⟩ := hnext
  · exact cycleTimeLeft_of_dwell hc (by simp [waitsLeft, hs, ht]) (by simp [dwellTimeLeft, phaseBound, hs, ht, hrel])
  · exact cycleTimeLeft_of_dwell hc (by simp [waitsLeft, hs, ht]) (by simp [dwellTimeLeft, phaseBound, hs, ht])
  · exact cycleTimeLeft_of_wait hc (by simp [waitsLeft, hs, ht]) (by simp [dwellTimeLeft, hs, ht]) (by simp [phaseBound, hs])
  · exact cycleTimeLeft_of_wait hc (by simp [waitsLeft, hs, ht]) (by simp [dwellTimeLeft, hs, ht]) (by simp [phaseBound, hs])
  · have hzero : s.bitCnt = 0 := hearly (by simp [hs])
    exact cycleTimeLeft_of_wait hc (by simp [waitsLeft, hs, ht, hcnt, hzero]) (by simp [dwellTimeLeft, hs, ht])
      (by simp [phaseBound, hs])
  · have hle : s.bitCnt.toNat ≤ 39 := hlate (.inl hs)
    exact cycleTimeLeft_of_wait hc (by simp only [waitsLeft, hs, ht, hcnt]; omega) (by simp [dwellTimeLeft, hs, ht])
      (by simp [phaseBound, hs])

/-- The wait of the next bit takes over what the measurement of a bit before the fortieth left of the cycle's time. -/
theorem cycleTimeLeft_of_captures {Δ : Nat} {s t : State} (hs : s.state = .bitMeasure) (ht : t.state = .bitWaitHigh)
    (h39 : s.bitCnt ≠ 39) (hcnt : t.bitCnt = s.bitCnt + 1) (hc : SameConfig s t) (hcount : CountFits s.state s.bitCnt) :
    cycleTimeLeft Δ s = phaseBound s + Δ + cycleTimeLeft Δ t := by
  have hle : s.bitCnt.toNat ≤ 39 := hcount.1 (.inr hs)
  have hsucc : t.bitCnt.toNat = s.bitCnt.toNat + 1 := by rw [hcnt]; bv_omega
  have hlt : s.bitCnt.toNat < 39 := by bv_omega
  exact cycleTimeLeft_of_wait hc (by simp only [waitsLeft, hs, ht, hsucc]; omega) (by simp [dwellTimeLeft, hs, ht])
    (by simp [phaseBound, hs])

/-- An exit from a phase ends the cycle, or begins a phase that takes over what it left of the cycle's time and a count
that fits it. -/
theorem PhaseExit.cycle {Δ : Nat} {s t : State} {now : Word} (h : PhaseExit s t now) (hc : SameConfig s t)
    (hcount : CountFits s.state s.bitCnt) :
    (t.state = .idle ∧ t.done = true)
      ∨ (t.state ≠ .idle ∧ t.tMark = now ∧ CountFits t.state t.bitCnt
        ∧ cycleTimeLeft Δ s = phaseBound s + Δ + cycleTimeLeft Δ t) := by
  cases h with
  | begins hnext hmark hcnt =>
    obtain ⟨hne, hcount'⟩ := hcount.enter hnext
    exact .inr ⟨hne, hmark, hcnt ▸ hcount', cycleTimeLeft_of_begins hnext hcnt hc hcount⟩
  | captures hs ht hmark h39 hcnt =>
    have hcount' := (hs ▸ hcount).capture h39
    exact .inr ⟨by simp [ht], hmark, ht ▸ hcnt ▸ hcount', cycleTimeLeft_of_captures hs ht h39 hcnt hc hcount⟩
  | ends _ hidle hdone => exact .inl ⟨hidle, hdone⟩

/-- The phase a cycle stands in is part of the time it has left. -/
theorem phaseBound_le_cycleTimeLeft {Δ : Nat} {s : State} (hb : s.state ≠ .idle) (hcount : CountFits s.state s.bitCnt) :
    phaseBound s + Δ ≤ cycleTimeLeft Δ s := by
  obtain ⟨hlate, _⟩ := hcount
  have hwait : 1 ≤ waitsLeft s → s.cfgTimeout.toNat + Δ ≤ cycleTimeLeft Δ s := fun h =>
    (Nat.le_mul_of_pos_left _ h).trans (Nat.le_add_left _ _)
  have hdwell : dwellTimeLeft Δ s ≤ cycleTimeLeft Δ s := Nat.le_add_right _ _
  unfold phaseBound
  unfold dwellTimeLeft at hdwell
  unfold waitsLeft at hwait
  cases hs : s.state <;> simp only [hs] at hb hlate hwait hdwell ⊢
  case idle => exact absurd rfl hb
  case startLow | startRel => omega
  case bitWaitHigh | bitMeasure =>
    have hle : s.bitCnt.toNat ≤ 39 := hlate (by simp)
    exact hwait (by omega)
  all_goals exact hwait (by omega)

theorem BoundsFit.of_sameConfig {Δ : Nat} {s t : State} (h : BoundsFit Δ s) (hc : SameConfig s t) : BoundsFit Δ t := by
  obtain ⟨hto, hsl, hrel, _⟩ := hc
  rwa [BoundsFit, hto, hsl, hrel]

/-- From the start of any of its phases a cycle ends within the time it has left, phase by phase. -/
theorem cycle_ends {Δ : Nat} (hΔ : 1 ≤ Δ) {s : State} (hb : s.state ≠ .idle) (hcount : CountFits s.state s.bitCnt)
    (hfit : BoundsFit Δ s) (hr : ∀ e ∈ s.inputs, e.rst = false) (hp : Paced Δ s.tMark s.inputs)
    (hlong : cycleTimeLeft Δ s ≤ elapsedOver s.tMark s.inputs) :
    ∃ es rest t, s.inputs = es ++ rest ∧ runEdges es.length s = .next t ∧ t.state = .idle ∧ t.done = true
      ∧ elapsedOver s.tMark es ≤ cycleTimeLeft Δ s := by
  induction hn : cycleTimeLeft Δ s using Nat.strong_induction_on generalizing s with
  | h n ih =>
    subst hn
    have hphase := phaseBound_le_cycleTimeLeft (Δ := Δ) hb hcount
    obtain ⟨l, last, r, t, hin, hrun, hc, hint, hexit, hpr, hle⟩ :=
      phase_left_within hΔ hb hfit hr hp (hphase.trans hlong)
    obtain ⟨hidle, hdone⟩ | ⟨hne, hmark, hcount', htime⟩ := hexit.cycle (Δ := Δ) hc hcount
    · exact ⟨l ++ [last], r, t, by simp [hin], by simpa using hrun, hidle, hdone, hle.trans hphase⟩
    · rw [hin, elapsedOver_append] at hlong
      obtain ⟨es, rest, u, hin', hrun', hidle, hdone, hle'⟩ :=
        ih (cycleTimeLeft Δ t) (by omega) hne hcount' (hfit.of_sameConfig hc)
          (fun e he => hr e (by rw [hin]; simp [← hint, he])) (by rwa [hmark, hint]) (by rw [hmark, hint]; omega) rfl
      refine ⟨l ++ last :: es, rest, u, by rw [hin, ← hint, hin']; simp, ?_, hidle, hdone, ?_⟩
      · have hlen : (l ++ last :: es).length = l.length + 1 + es.length := by simp; omega
        rw [hlen, runEdges_append _ _ hrun, hrun']
      · rw [hmark] at hle'
        rw [elapsedOver_append]
        omega

/-- A START taken while idle keeps the configuration. -/
theorem sameConfig_of_start {s t : State} (hi : s.state = .idle) (hr : s.input.rst = false)
    (hs : isStart (fetch s) = true) (h : step s = .next t) : SameConfig s t := by
  obtain ⟨hr', _⟩ | ⟨_, u, hu, rfl⟩ := step_cases h
  · simp [hr] at hr'
  · obtain ⟨d, hd⟩ := isStart_eq_true.mp hs
    rw [hd] at hu
    obtain rfl := exec_start_of_idle hi hu
    exact SameConfig.trans ⟨rfl, rfl, rfl, rfl, rfl, rfl, rfl⟩ (sameConfig_finishEdge s _)

/-- The edge of a START taken while idle. -/
theorem step_of_start {s : State} (hi : s.state = .idle) (hr : s.input.rst = false) (hs : isStart (fetch s) = true) :
    ∃ t, step s = .next t ∧ KeepsCycle (beginDecode s) t ∧ SameConfig s t ∧ t.inputs = s.inputs.tail := by
  obtain ⟨t, ht⟩ := step_completes s
  refine ⟨t, ht, ?_, sameConfig_of_start hi hr hs ht, step_inputs ht⟩
  obtain ⟨hr', _⟩ | ⟨_, _, hk⟩ | ⟨hn, _⟩ := step_cycle_cases ht
  · simp [hr] at hr'
  · exact hk
  · exact absurd ⟨hi, hs⟩ hn

/-- Settles O53: a phase by the edge that leaves it, and a cycle from the state that START leaves. -/
theorem decodeCycleEndsWithinItsBound : Obligations.DecodeCycleEndsWithinItsBound := by
  refine ⟨fun Δ s hΔ hb hfit hr hp hlong => ?_, fun Δ s hΔ hi hr hs hfit hrs hp hlong => ?_, by decide⟩
  · obtain ⟨l, last, r, t, hin, hrun, _, _, hexit, _, hle⟩ := phase_left_within hΔ hb hfit hr hp hlong
    have htake : s.inputs.take (l.length + 1) = l ++ [last] := by
      rw [hin, List.append_cons]
      exact List.take_left' (by simp)
    exact ⟨l.length + 1, t, by simp [hin], hrun, hexit.state_ne, htake ▸ hle⟩
  · obtain ⟨t, hstep, hk, hc, hint⟩ := step_of_start hi hr hs
    have hstate : t.state = .startLow := hk.state
    have hmark : t.tMark = s.now := hk.tMark
    have hcount : CountFits t.state t.bitCnt := by
      rw [hstate, hk.bitCnt]
      exact ⟨by simp, by simp⟩
    have hbound : cycleTimeLeft Δ t = cycleBound Δ s := by
      obtain ⟨hto, hsl, hrel, _⟩ := hc
      rw [cycleTimeLeft_of_startLow Δ hstate, cycleBound, hto, hsl, hrel, cycleBound]
    obtain ⟨es, rest, u, hin, hrun, hidle, hdone, hle⟩ :=
      cycle_ends hΔ (by simp [hstate]) hcount (hfit.of_sameConfig hc) (hint ▸ hrs) (by rwa [hmark, hint])
        (by rwa [hmark, hint, hbound])
    rw [hint] at hin
    rw [hmark, hbound] at hle
    refine ⟨es.length, u, by simp [hin], (runEdges_succ _ hstep).trans hrun, hidle, hdone, ?_⟩
    rwa [hin, List.take_left]

end Sys2Proof.Machine
end

section
/-! The checksum test (41_validator.md R180, R182): the bytes of an assembled frame, the sum of bytes 0 to 3 as a number and
as a sum over their positions, and what a change of bytes does to it. -/

namespace Sys2Proof.Machine

theorem validate_iff (f : Frame) : validate f = true ↔ sum4 f = frameByte f 4 := beq_iff_eq

/-- A byte appended at the low end moves the bytes above it up by one place. -/
theorem extract_append_byte {w n : Nat} {hi : BitVec w} {b c : Byte} (h : hi.extractLsb' n 8 = c) :
    (hi ++ b).extractLsb' (n + 8) 8 = c :=
  (BitVec.extractLsb'_append_eq_of_le (Nat.le_add_left 8 n)).trans h

/-- The bytes of a frame written as five bytes, the first sent on the left (30_encoding.md R88). -/
theorem frameByte_append (b0 b1 b2 b3 b4 : Byte) :
    frameByte (b0 ++ b1 ++ b2 ++ b3 ++ b4) 0 = b0 ∧ frameByte (b0 ++ b1 ++ b2 ++ b3 ++ b4) 1 = b1
      ∧ frameByte (b0 ++ b1 ++ b2 ++ b3 ++ b4) 2 = b2 ∧ frameByte (b0 ++ b1 ++ b2 ++ b3 ++ b4) 3 = b3
      ∧ frameByte (b0 ++ b1 ++ b2 ++ b3 ++ b4) 4 = b4 := by
  have last {w : Nat} {hi : BitVec w} {b : Byte} : (hi ++ b).extractLsb' 0 8 = b := BitVec.extractLsb'_append_eq_right
  exact ⟨extract_append_byte (extract_append_byte (extract_append_byte (extract_append_byte BitVec.extractLsb'_eq_self))),
    extract_append_byte (extract_append_byte (extract_append_byte last)), extract_append_byte (extract_append_byte last),
    extract_append_byte last, last⟩

theorem sum4_toNat (f : Frame) :
    (sum4 f).toNat
      = ((frameByte f 0).toNat + (frameByte f 1).toNat + (frameByte f 2).toNat + (frameByte f 3).toNat) % 256 := by
  simp [sum4, BitVec.toNat_add]

/-- A frame is valid when its integrity byte is, as a number, the sum of the others modulo 256. -/
theorem validate_iff_toNat (f : Frame) :
    validate f = true ↔
      ((frameByte f 0).toNat + (frameByte f 1).toNat + (frameByte f 2).toNat + (frameByte f 3).toNat) % 256
        = (frameByte f 4).toNat := by
  rw [validate_iff, ← sum4_toNat, BitVec.toNat_inj]

/-- Settles O30: the sum and the test as numbers, at the bytes of an assembled frame. -/
theorem validateIsTheSumModulo256 : Obligations.ValidateIsTheSumModulo256 := by
  intro b0 b1 b2 b3 b4
  obtain ⟨h0, h1, h2, h3, h4⟩ := frameByte_append b0 b1 b2 b3 b4
  rw [validate_iff_toNat, sum4_toNat, h0, h1, h2, h3, h4]
  exact ⟨rfl, Iff.rfl⟩

/-- The sum over the positions of the four bytes, which no order of them changes. -/
theorem sum4_eq_sum (f : Frame) : sum4 f = ∑ k : Fin 4, frameByte f k := by
  simp [sum4, Fin.sum_univ_four]

/-- The bytes of `g` are those of `f` at rearranged positions. -/
theorem sum4_of_perm {f g : Frame} (σ : Equiv.Perm (Fin 4)) (h : ∀ k : Fin 4, frameByte g k = frameByte f (σ k)) :
    sum4 g = sum4 f := by
  simp only [sum4_eq_sum, h]
  exact Equiv.sum_comp σ fun k : Fin 4 => frameByte f k

/-- Where one of bytes 0 to 3 changes, the sum changes by the same amount. -/
theorem sum4_sub_of_one_byte {f g : Frame} (j : Fin 4) (h : ∀ k : Fin 4, k ≠ j → frameByte g k = frameByte f k) :
    sum4 g - sum4 f = frameByte g j - frameByte f j := by
  rw [sum4_eq_sum, sum4_eq_sum, ← Finset.sum_sub_distrib]
  exact Finset.sum_eq_single j (fun k _ hk => by simp [h k hk]) (by simp)

/-- A frame with the sum and the integrity byte of a valid frame is valid. -/
theorem validate_of_same_sum {f g : Frame} (hf : validate f = true) (hsum : sum4 g = sum4 f)
    (h4 : frameByte g 4 = frameByte f 4) : validate g = true := by
  rw [validate_iff] at hf ⊢
  rw [hsum, hf, h4]

/-- Two valid frames that agree in all bytes but one agree in that byte too. -/
theorem frameByte_eq_of_validate {f g : Frame} (hf : validate f = true) (hg : validate g = true) {j : Nat} (hj : j ≤ 4)
    (h : ∀ k, k ≤ 4 → k ≠ j → frameByte g k = frameByte f k) : frameByte g j = frameByte f j := by
  rw [validate_iff] at hf hg
  obtain rfl | hlt := hj.eq_or_lt
  · have hsum : sum4 g = sum4 f := by simp [sum4, h]
    rw [← hg, hsum, hf]
  · have hsum : sum4 g = sum4 f := by rw [hg, hf, h 4 le_rfl (by omega)]
    have hchange := sum4_sub_of_one_byte (f := f) (g := g) ⟨j, hlt⟩ fun k hk =>
      h k (by omega) fun hkj => hk (Fin.ext hkj)
    rw [hsum, sub_self] at hchange
    exact sub_eq_zero.mp hchange.symm

/-- Amounts that cancel leave the sum. -/
theorem sum4_of_cancelling {f g : Frame} (h0 : frameByte g 0 = frameByte f 0 + 1)
    (h1 : frameByte g 1 = frameByte f 1 - 1) (h : ∀ k, 2 ≤ k → k ≤ 4 → frameByte g k = frameByte f k) :
    sum4 g = sum4 f := by
  rw [sum4, sum4, h0, h1, h 2 (by decide) (by decide), h 3 (by decide) (by decide)]
  ring

/-- Two of bytes 0 to 3 change places. -/
theorem sum4_of_swap {f g : Frame} {i j : Nat} (hi : i ≤ 3) (hj : j ≤ 3) (hgi : frameByte g i = frameByte f j)
    (hgj : frameByte g j = frameByte f i) (h : ∀ k, k ≤ 4 → k ≠ i → k ≠ j → frameByte g k = frameByte f k) :
    sum4 g = sum4 f := by
  refine sum4_of_perm (Equiv.swap ⟨i, by omega⟩ ⟨j, by omega⟩) fun k => ?_
  rw [Equiv.swap_apply_def]
  split_ifs with hki hkj
  · rw [hki, hgi]
  · rw [hkj, hgj]
  · exact h k (by omega) (fun e => hki (Fin.ext e)) (fun e => hkj (Fin.ext e))

/-- Settles O31: one changed byte cannot agree with the test, and the two cancelling changes leave the sum and the integrity
byte. -/
theorem validateDetectsAnyOneByteChange : Obligations.ValidateDetectsAnyOneByteChange := by
  refine fun f g => ⟨fun h4 => (validate_iff f).mpr h4.symm, fun hf j hj h hne => ?_, fun hf h0 h1 h => ?_,
    fun hf i j hi hj hgi hgj h => ?_⟩
  · exact Bool.eq_false_iff.mpr fun hg => hne (frameByte_eq_of_validate hf hg hj h)
  · exact validate_of_same_sum hf (sum4_of_cancelling h0 h1 h) (h 4 (by decide) le_rfl)
  · exact validate_of_same_sum hf (sum4_of_swap hi hj hgi hgj h) (h 4 le_rfl (by omega) (by omega))

end Sys2Proof.Machine
end

section
/-! The register accesses (42_register_access.md R190 to R220): the fields of the words that STATUS, DATA, CHECK, ERR_INFO
and ERR_DUR show, and what each group of host operations does to the registers. -/

namespace Sys2Proof.Machine

/-! The words of the read-only registers. -/

/-- No bit of a value stands at or above its width. -/
theorem extractLsb'_of_width_le {w : Nat} (x : BitVec w) {k : Nat} (len : Nat) (h : w ≤ k) : x.extractLsb' k len = 0 := by
  apply BitVec.eq_of_getLsbD_eq
  intro j hj
  simp [BitVec.getLsbD_of_ge x (k + j) (by omega)]

theorem statusValue_flags (s : State) :
    (statusValue s).getLsbD 0 = busy s ∧ (statusValue s).getLsbD 1 = s.done ∧ (statusValue s).getLsbD 2 = s.frameValid
      ∧ (statusValue s).getLsbD 3 = chkOk s ∧ (statusValue s).getLsbD 4 = lineOe s
      ∧ (statusValue s).getLsbD 11 = false := by
  simp only [statusValue, BitVec.getLsbD_setWidth, BitVec.getLsbD_append]
  simp

/-- A field of a concatenation is read by dropping the parts below it; `-Nat.reduceAdd` keeps the width of the
concatenation as a sum, by which the parts are told. -/
theorem statusValue_fields (s : State) :
    (statusValue s).extractLsb' 5 3 = 0 ∧ (statusValue s).extractLsb' 8 3 = s.state.code
      ∧ (statusValue s).extractLsb' 12 4 = s.result.code ∧ (statusValue s).extractLsb' 16 6 = s.bitCnt
      ∧ (statusValue s).extractLsb' 22 10 = 0 := by
  simp [statusValue, BitVec.extractLsb'_setWidth_of_le, BitVec.extractLsb'_append_eq_of_le,
    BitVec.extractLsb'_append_eq_right, extractLsb'_of_width_le, -Nat.reduceAdd]

theorem checkValue_fields (s : State) :
    (checkValue s).extractLsb' 0 8 = frameByte s.frame 4 ∧ (checkValue s).extractLsb' 8 8 = sum4 s.frame
      ∧ (checkValue s).extractLsb' 16 16 = 0 := by
  simp [checkValue, BitVec.extractLsb'_setWidth_of_le, BitVec.extractLsb'_append_eq_of_le,
    BitVec.extractLsb'_append_eq_right, extractLsb'_of_width_le, -Nat.reduceAdd]

theorem errInfoValue_fields (s : State) :
    (errInfoValue s).extractLsb' 0 6 = s.errBit ∧ (errInfoValue s).extractLsb' 6 2 = 0
      ∧ (errInfoValue s).extractLsb' 8 3 = s.errState.code ∧ (errInfoValue s).extractLsb' 11 21 = 0 := by
  simp [errInfoValue, BitVec.extractLsb'_setWidth_of_le, BitVec.extractLsb'_append_eq_of_le,
    BitVec.extractLsb'_append_eq_right, extractLsb'_of_width_le, -Nat.reduceAdd]

/-- A field of a field. -/
theorem extractLsb'_extractLsb' {w m : Nat} (x : BitVec w) (start k len : Nat) (h : k + len ≤ m) :
    (x.extractLsb' start m).extractLsb' k len = x.extractLsb' (start + k) len := by
  apply BitVec.eq_of_getLsbD_eq
  intro j hj
  simp [hj, Nat.add_assoc]
  omega

theorem dataValue_bytes (s : State) :
    (dataValue s).extractLsb' 24 8 = frameByte s.frame 0 ∧ (dataValue s).extractLsb' 16 8 = frameByte s.frame 1
      ∧ (dataValue s).extractLsb' 8 8 = frameByte s.frame 2 ∧ (dataValue s).extractLsb' 0 8 = frameByte s.frame 3 := by
  simp [dataValue, extractLsb'_extractLsb', frameByte]

/-- DATA and the integrity byte are the frame in the order of the wire (20_memory.md R65, R66). -/
theorem dataValue_append_integrity (s : State) : dataValue s ++ frameByte s.frame 4 = s.frame :=
  BitVec.extractLsb'_append_extractLsb'

/-- CHK_OK compares the two bytes of CHECK (10_state.md R37). -/
theorem chkOk_iff (s : State) : chkOk s = true ↔ s.frameValid = true ∧ sum4 s.frame = frameByte s.frame 4 := by
  rw [chkOk, Bool.and_eq_true, validate_iff]

theorem errInfoValue_of_clear {s : State} (hbit : s.errBit = 0) (hstate : s.errState = .idle) : errInfoValue s = 0 := by
  rw [errInfoValue, hbit, hstate]
  decide

/-- By the record only an InvalidPulse leaves a duration (60_exceptions.md R241). -/
theorem OutcomeRecord.errDur_zero {s : State} (ho : OutcomeRecord s) (hn : s.result ≠ .invalidPulse) : s.errDur = 0 := by
  obtain ⟨_, hclear, hnoResponse, htimeout, _⟩ := ho
  cases hr : s.result
  case none => exact (hclear (.inl hr)).2.2
  case ok => exact (hclear (.inr (.inl hr))).2.2
  case checksumError => exact (hclear (.inr (.inr hr))).2.2
  case noResponse =>
    obtain ⟨_, _, hdur, _⟩ := hnoResponse hr
    exact hdur
  case timeout =>
    obtain ⟨_, _, _, hdur, _⟩ := htimeout hr
    exact hdur
  case invalidPulse => exact absurd hr hn

/-! The reads. -/

/-- A well-formed read shows its slot and leaves every register (42_register_access.md R190). -/
theorem exec_read {i : Instr} (hw : wellFormed i = true) (hread : i.isWrite = false) (s : State) :
    exec i s = .next (s.withBusRdata (readValue i.slot s)) := by
  cases i
  case rdRsvd slot =>
    rw [Instr.slot, readValue_of_reserved (reservedSlot_iff.mp hw)]
    rfl
  case rdCtrl | rdStatus | rdData | rdCheck | rdErrInfo | rdErrDur | rdTimeout | rdStartLow | rdRelease | rdBit0Min
    | rdBit0Max | rdBit1Min | rdBit1Max => rfl
  all_goals cases hread

/-- `bus_we` is the direction of the operation on the bus (30_encoding.md R80). -/
theorem fetch_isWrite (s : State) : (fetch s).isWrite = s.input.busWe := by
  rw [fetch, decode_hostWord]
  split
  case isTrue hwe => rw [hwe, (decodeWrite_isWrite_data _ _).1]
  case isFalse hwe => rw [Bool.eq_false_iff.mpr hwe, (decodeRead_isWrite_data _).1]

/-- Settles O11, which is `exec_read`. -/
theorem readsChangeOnlyTheBus : Obligations.ReadsChangeOnlyTheBus := fun _ s hw hread => exec_read hw hread s

/-- Settles O10: every edge shows the addressed slot, and with `bus_we` at 0 the operation on the bus is a read. -/
theorem busShowsTheSlotBeforeTheEdge : Obligations.BusShowsTheSlotBeforeTheEdge := by
  refine fun s => ⟨step_shows_slot s, fun hwe => ?_⟩
  obtain ⟨hslot, hw⟩ := fetch_slot_wellFormed s
  rw [← hslot]
  exact exec_read hw ((fetch_isWrite s).trans hwe) s

/-- Settles O12: the flags and fields of STATUS, BUSY and LINE_OE by the states they stand for. -/
theorem statusReadShowsEveryField : Obligations.StatusReadShowsEveryField := by
  refine ⟨fun s => ⟨statusValue s, exec_read rfl rfl s, ?_⟩, by decide⟩
  obtain ⟨hbusy, hdone, hvalid, hchk, hoe, h11⟩ := statusValue_flags s
  obtain ⟨h5, hstate, hresult, hcnt, h22⟩ := statusValue_fields s
  refine ⟨hbusy.trans ?_, hdone, hvalid, hchk, hoe.trans ?_, h5, hstate, h11, hresult, hcnt, h22⟩
  · exact Bool.eq_iff_iff.mpr (busy_eq_true.trans decide_eq_true_iff.symm)
  · exact Bool.eq_iff_iff.mpr ((lineOe_iff s).trans decide_eq_true_iff.symm)

/-- Settles O13: the bytes of the two words, and the frame of 0 where the facts say that there is none. -/
theorem dataAndCheckShowTheFrame : Obligations.DataAndCheckShowTheFrame := by
  refine fun s => ⟨dataValue s, checkValue s, exec_read rfl rfl s, exec_read rfl rfl s, rfl, ?_⟩
  obtain ⟨h0, h1, h2, h3⟩ := dataValue_bytes s
  obtain ⟨hintegrity, hsum, h16⟩ := checkValue_fields s
  rw [hintegrity, hsum]
  exact ⟨h0, h1, h2, h3, rfl, rfl, h16, chkOk_iff s, dataValue_append_integrity s,
    fun hf hv => dataValue_of_noFrame (hf.noFrame_zero hv)⟩

/-- Settles O14: the fields of the two words, and under the record what they are for each result. -/
theorem errorReadsShowTheLatch : Obligations.ErrorReadsShowTheLatch := by
  refine fun s => ⟨errInfoValue s, errDurValue s, exec_read rfl rfl s, exec_read rfl rfl s, ?_⟩
  obtain ⟨hbit, h6, hstate, h11⟩ := errInfoValue_fields s
  refine ⟨hbit, h6, hstate, h11, rfl, fun ho => ⟨fun hr => ?_, fun hr => ?_, ho.errDur_zero⟩⟩
  · obtain ⟨hbit0, hidle, hdur⟩ := ho.noError_clear (by tauto)
    exact ⟨errInfoValue_of_clear hbit0 hidle, hdur⟩
  · obtain ⟨hwait, hbit0, _⟩ := ho.noResponse_record hr
    rw [hbit, hstate]
    exact ⟨hbit0, List.mem_map_of_mem (f := FsmState.code) hwait⟩

/-- Settles O15: each of the seven slots reads as its register. -/
theorem configReadsShowTheRegister : Obligations.ConfigReadsShowTheRegister :=
  fun s => ⟨exec_read rfl rfl s, exec_read rfl rfl s, exec_read rfl rfl s, exec_read rfl rfl s, exec_read rfl rfl s,
    exec_read rfl rfl s, exec_read rfl rfl s⟩

/-- Settles O16: both slots read as a constant 0. -/
theorem ctrlAndReservedReadZero : Obligations.CtrlAndReservedReadZero := by
  refine fun s => ⟨exec_read rfl rfl s, fun slot hr => ?_⟩
  have hread := exec_read (i := .rdRsvd slot) (reservedSlot_iff.mpr hr) rfl s
  rwa [Instr.slot, readValue_of_reserved hr] at hread

/-! The writes. -/

/-- Settles O20: each is a bus cycle over the registers as they are. -/
theorem ignoredWritesChangeOnlyTheBus : Obligations.IgnoredWritesChangeOnlyTheBus := by
  intro s d i hi
  simp only [List.mem_cons, List.not_mem_nil, or_false] at hi
  obtain rfl | rfl | rfl | rfl | rfl | rfl | rfl | rfl | rfl := hi <;> exact busCycle_next.mpr rfl

/-- A write that takes effect only while idle takes effect while idle. -/
theorem idleWrite_of_idle {s : State} (hi : s.state = .idle) (v : Word) (new : State) :
    idleWrite v new s = .next (new.withBusRdata v) :=
  idleWrite_next.mpr (by simp [busy_eq_false.mpr hi])

/-- Settles O21: the stores while idle one by one; while busy a configuration write is an operation other than CLEAR. -/
theorem configWritesStoreOnlyWhenIdle : Obligations.ConfigWritesStoreOnlyWhenIdle := by
  refine fun s d => ⟨fun hi => ?_, fun hb i hmem => ?_⟩
  · have store (v : Word) (new : State) := idleWrite_of_idle hi v new
    exact ⟨store _ _, store _ _, store _ _, store _ _, store _ _, store _ _, store _ _⟩
  · have hop : wellFormed i = true ∧ isClear i = false := by
      simp only [List.mem_cons, List.not_mem_nil, or_false] at hmem
      obtain rfl | rfl | rfl | rfl | rfl | rfl | rfl := hmem <;> exact ⟨rfl, rfl⟩
    exact exec_of_busy_of_not_clear hop.1 hb hop.2

/-- Settles O19: of the two branches of CLEAR the state rule chooses, and while idle it sets nothing. -/
theorem clearClearsOnlyDone : Obligations.ClearClearsOnlyDone := by
  refine fun s d => ⟨fun hc => busCycle_next.mpr ?_, fun hc => busCycle_next.mpr ?_, fun hi => ?_⟩
  · rw [if_neg (by simp [hc])]
    rfl
  · rw [if_pos hc]
    rfl
  · rw [stateRule_idle hi]
    rfl

/-- Settles O23: of all an operation can do to the registers, START and the configuration stores need an idle SWPD. -/
theorem busyIgnoresEveryOperationButClear : Obligations.BusyIgnoresEveryOperationButClear := by
  intro i s t hb h
  obtain ⟨u, v, rfl, rfl | ⟨hi, _⟩ | ⟨_, rfl, hclear⟩ | ⟨hi, _⟩⟩ := exec_cases h
  · exact .inl rfl
  · exact absurd hi hb
  · exact .inr ⟨hclear, rfl⟩
  · exact absurd hi hb

end Sys2Proof.Machine
end

section
/-! The end of a decode cycle and the time after it (60_exceptions.md): the error latch (R241), an idle SWPD without a START
(R247), the writes that one edge merges (R250), the completion flag (R252) and what a host cannot observe (R257). -/

namespace Sys2Proof.Machine

/-! What no slot shows. -/

@[simp] theorem readValue_withMark (slot : Slot) (s : State) (m : Word) :
    readValue slot (s.withMark m) = readValue slot s := rfl

/-- No slot reads the assembly register (40_decoder.md R136). -/
@[simp] theorem readValue_withShift (slot : Slot) (s : State) (f : Frame) :
    readValue slot (s.withBits f s.bitCnt) = readValue slot s := rfl

/-- Settles O17: the slots by the two lemmas above; the outputs read only `state` and `done`. -/
theorem hiddenRegistersAreNeverShown : Obligations.HiddenRegistersAreNeverShown := by
  refine fun s slot f m => ⟨?_, rfl, rfl, rfl⟩
  rw [readValue_withMark, readValue_withShift]

/-! The completion flag. -/

/-- `done` after a host operation: a START taken while idle clears it, and so does a CLEAR unless the state rule sets it at
this edge (42_register_access.md R206). -/
theorem exec_done {i : Instr} {s u : State} (h : exec i s = .next u) :
    u.done = (s.done && !(isClear i && !(stateRule s).completes) && !(isStart i && !busy s)) := by
  cases i
  case start d =>
    rw [idleWrite_next.mp h]
    cases busy s <;> simp [isClear, isStart]
  case clear d =>
    rw [busCycle_next.mp h]
    cases (stateRule s).completes <;> simp [isClear, isStart, acknowledge]
  case wrTimeout | wrStartLow | wrRelease | wrBit0Min | wrBit0Max | wrBit1Min | wrBit1Max =>
    rw [idleWrite_next.mp h]
    cases busy s <;> simp [isClear, isStart]
  all_goals rw [busCycle_next.mp h]; simp [isClear, isStart]

/-- Of the state rule only a completion writes `done` (10_state.md R30). -/
theorem applyTransition_done (t : Transition) (pre h : State) :
    (applyTransition t pre h).done = (t.completes || h.done) := by
  cases t <;> rfl

/-- `done` after an edge: reset first, then a completion, then CLEAR and a START taken while idle (60_exceptions.md R250). -/
theorem step_done {s t : State} (h : step s = .next t) :
    t.done = (!s.input.rst
      && ((stateRule s).completes || (s.done && !isClear (fetch s) && !(isStart (fetch s) && !busy s)))) := by
  obtain ⟨hr, rfl⟩ | ⟨hr, u, hu, rfl⟩ := step_cases h
  · rw [hr]
    rfl
  · have hmerge : (finishEdge s u).done = ((stateRule s).completes || u.done) := applyTransition_done _ _ _
    rw [hmerge, exec_done hu, hr]
    cases (stateRule s).completes <;> simp

/-- An idle SWPD completes nothing (40_decoder.md R125). -/
theorem busy_of_completes {s : State} (hc : (stateRule s).completes = true) : s.state ≠ .idle := by
  intro hi
  rw [stateRule_idle hi] at hc
  cases hc

theorem DecodeError.result_ne_none (e : DecodeError) : e.result ≠ .none := by
  cases e <;> simp [DecodeError.result]

/-- A completion leads to IDLE with an outcome (40_decoder.md R134; 60_exceptions.md R241). -/
theorem applyTransition_of_completes {t : Transition} (ht : t.completes = true) (pre h : State) :
    (applyTransition t pre h).state = .idle ∧ (applyTransition t pre h).result ≠ .none := by
  cases t
  case commit f =>
    obtain hr | hr := frameResult_cases f <;> simp [hr]
  case fail e => exact ⟨rfl, e.result_ne_none⟩
  all_goals cases ht

theorem outcome_of_completes {s t : State} (hr : s.input.rst = false) (hc : (stateRule s).completes = true)
    (h : step s = .next t) : t.state = .idle ∧ t.result ≠ .none := by
  rw [step_eq_busyEdge (busy_of_completes hc) hr] at h
  exact Host.Outcome.next.inj h ▸ applyTransition_of_completes hc s (busyEdge s)

/-- Settles O43: each clause is read off `step_done`; where `done` rises, a completion is all that can set it. -/
theorem doneRisesAtCompletionAndFallsWhenAcknowledged : Obligations.DoneRisesAtCompletionAndFallsWhenAcknowledged := by
  intro s t h
  have hdone := step_done h
  refine ⟨fun hs ht => ?_, fun hs ht => ?_, fun hr hc => ?_, fun hr => ?_, fun hi hop => ?_⟩
  · obtain ⟨hr, hc⟩ : s.input.rst = false ∧ (stateRule s).completes = true := by simpa [ht, hs] using hdone.symm
    exact ⟨hr, busy_of_completes hc, outcome_of_completes hr hc h⟩
  · cases hr : s.input.rst
    case true => exact .inl rfl
    case false =>
      cases hclear : isClear (fetch s)
      case true => exact .inr (.inl rfl)
      case false =>
        obtain ⟨_, hstart, hb⟩ : _ ∧ isStart (fetch s) = true ∧ busy s = false := by
          simpa [ht, hs, hr, hclear] using hdone
        exact .inr (.inr ⟨busy_eq_false.mp hb, hstart⟩)
  · have ht : t.done = true := by simp [hdone, hr, hc]
    exact ⟨ht, ht⟩
  · simp [hdone, hr]
  · obtain hclear | hstart := hop
    · simp [hdone, stateRule_idle hi, Transition.completes, hclear]
    · simp [hdone, stateRule_idle hi, Transition.completes, hstart, busy_eq_false.mpr hi]

/-! The writes of one edge. -/

/-- While busy no host operation writes a register the state rule writes but `done` (42_register_access.md R205). -/
theorem exec_of_busy_writes_done {i : Instr} {s u : State} (hb : s.state ≠ .idle) (h : exec i s = .next u) :
    u = (s.withDone u.done).withBusRdata u.busRdata := by
  obtain hu | ⟨_, hu⟩ := busyIgnoresEveryOperationButClear i s u hb h <;> rw [hu] <;> rfl

/-- Settles O26: reset, then `done` by `step_done`, and apart from `done` only one of the two writes: the state rule while
busy, the operation while idle. -/
theorem completionWinsOverClear : Obligations.CompletionWinsOverClear := by
  refine fun s t h => ⟨fun hr => ?_, fun hr => ⟨fun hclear => ?_, fun hc => ?_, stateRule_idle, fun hb u hu => ?_⟩⟩
  · rw [step_of_rst hr] at h
    exact Host.Outcome.next.inj h ▸ rfl
  · simp [step_done h, hr, hclear]
  · simp [step_done h, hr, hc]
  · exact exec_of_busy_writes_done hb hu

/-! The error latch. -/

/-- The errors a state rule raises, with what they carry (60_exceptions.md R242 to R244). -/
theorem error_of_fail {s : State} {e : DecodeError} (he : stateRule s = .fail e) :
    e = .noResponse ∨ e = .timeout s.bitCnt ∨ e = .invalidPulse s.bitCnt (elapsed s) := by
  obtain ⟨_, hr⟩ | ⟨_, hr⟩ | ⟨next, hr, _⟩ | ⟨_, _, _, b, _, hr⟩ | ⟨_, _, _, b, _, hr⟩ | ⟨_, hr⟩ | ⟨_, hr⟩ | ⟨_, hr⟩ :=
    stateRule_cases s <;> cases hr.symm.trans he
  · exact .inl rfl
  · exact .inr (.inl rfl)
  · exact .inr (.inr rfl)

/-- Settles O39: the edge is the error latch over an edge that writes of the decode cycle only `done`, and the three
errors carry the bit counter and the measured time. -/
theorem errorLatchRecordsTheError : Obligations.ErrorLatchRecordsTheError := by
  intro s e hr he
  refine ⟨_, step_of_fail hr he, rfl, rfl, rfl, rfl, rfl, rfl, rfl, rfl, ⟨rfl, rfl, rfl, rfl, rfl, rfl, rfl⟩, rfl, rfl,
    ?_, ?_, ?_, fun hf => ?_⟩
  · rintro rfl
    exact ⟨rfl, rfl, rfl⟩
  · rintro n rfl
    obtain rfl : n = s.bitCnt := by simpa using error_of_fail he
    exact ⟨rfl, rfl, rfl, rfl⟩
  · rintro n d rfl
    obtain ⟨rfl, rfl⟩ : n = s.bitCnt ∧ d = elapsed s := by simpa using error_of_fail he
    exact ⟨rfl, rfl, rfl, rfl, rfl⟩
  · obtain ⟨_, hv, hz, _⟩ := (reachableFacts_busy_iff (busy_of_fail he)).mp hf
    exact ⟨hv, hz⟩

/-! Without a START. -/

/-- A run of edges without reset and START leaves an idle SWPD its decode cycle's registers but for `done`. -/
theorem runEdges_of_idle {s : State} {es rest : List EdgeInput} (hi : s.state = .idle) (hin : s.inputs = es ++ rest)
    (hquiet : ∀ e ∈ es, e.rst = false ∧ isStart (decode (hostWord e)) = false) :
    ∃ t, runEdges es.length s = .next t ∧ KeepsCycle s t := by
  induction es generalizing s with
  | nil => exact ⟨s, rfl, .refl s⟩
  | cons e es ih =>
    obtain ⟨hr, hs⟩ := hquiet e List.mem_cons_self
    rw [← input_of_inputs_cons hin] at hr hs
    obtain ⟨u, hstep⟩ := step_completes s
    have hk : KeepsCycle s u := keepsCycle_of_idle hi hr hs hstep
    obtain ⟨t, hrun, hkt⟩ := ih (hk.state.trans hi) (inputs_of_step_cons hin hstep)
      fun a ha => hquiet a (List.mem_cons_of_mem e ha)
    exact ⟨t, (runEdges_succ _ hstep).trans hrun, hk.trans hkt⟩

/-- Settles O49: the run over the first `n` inputs. -/
theorem noCycleWithoutStart : Obligations.NoCycleWithoutStart := by
  intro n s hi hn hquiet
  obtain ⟨t, hrun, hk⟩ := runEdges_of_idle hi (List.take_append_drop n s.inputs).symm hquiet
  rw [List.length_take_of_le hn] at hrun
  have hidle : t.state = .idle := hk.state.trans hi
  exact ⟨t, hrun, hidle, lineOe_eq_false (by simp [hidle]), hk.result, hk.frame, hk.frameValid, hk.errBit, hk.errState,
    hk.errDur⟩

end Sys2Proof.Machine
end

section
/-! Reset and the hazards of a running decode cycle (70_reset_and_hazards.md): the reset edge (R270), a START and a
configuration write while busy (R275, R276), what a busy SWPD shows (R277), and a timestamp that stops (R278). -/

namespace Sys2Proof.Machine

/-! Reset. -/

/-- Settles O9: STATUS and the outputs of the reset edge are those of the state after reset, none of them reading the bus
or the inputs. -/
theorem resetEdgeOverridesEverything : Obligations.ResetEdgeOverridesEverything :=
  fun s hr => ⟨resetEdge s, step_of_rst hr, rfl, statusReadShowsEveryField.2, rfl, rfl, rfl⟩

/-! The host operation of a busy edge. -/

theorem busSlot_carrying (e : EdgeInput) (h : HostOp) : busSlot (carrying e h) = opSlot h :=
  extractLsb'_extractLsb' h 32 2 4 (by decide)

/-- Placing a word on the bus makes it the one fetched. -/
theorem fetch_withHostWord (s : State) (h : HostOp) : fetch (s.withHostWord h) = decode h := by
  have hfetch : fetch (s.withHostWord h) = decode (hostWord (carrying s.input h)) := rfl
  rw [hfetch, decode_hostWord, busSlot_carrying]
  rfl

/-- The state rule's writes read of the inputs only the timestamp. -/
theorem applyTransition_pre_withHostWord (t : Transition) (s u : State) (h : HostOp) :
    applyTransition t (s.withHostWord h) u = applyTransition t s u := by
  cases t <;> rfl

/-- An edge of a busy SWPD reads of the word on the bus its slot and whether it is a CLEAR (42_register_access.md R205). -/
theorem step_withHostWord_of_busy {s : State} (hb : s.state ≠ .idle) (h : HostOp) :
    step (s.withHostWord h) = .next (applyTransition (stateRule s) s
      (((s.withBusRdata (readValue (opSlot h) s)).withDone (s.done && !isClear (decode h))).withEnv s.inputs.tail
        (s.edge + 1))) := by
  have hrule : stateRule (s.withHostWord h) = stateRule s := stateRule_withEnv rfl rfl
  have hslot : busSlot (s.withHostWord h).input = opSlot h := busSlot_carrying s.input h
  rw [step_eq_busyEdge (s := s.withHostWord h) hb rfl, hrule, applyTransition_pre_withHostWord, busyEdge, hslot,
    fetch_withHostWord]
  rfl

/-- Settles O24: both are writes of CTRL, and neither is a CLEAR. -/
theorem startWhileBusyIsIgnored : Obligations.StartWhileBusyIsIgnored := by
  intro s d hb hd
  obtain ⟨_, hstart, _⟩ := Laws.WireFormat.start d
  obtain ⟨_, hnop, _⟩ := Laws.WireFormat.ctrlNop 0
  rw [step_withHostWord_of_busy hb, step_withHostWord_of_busy hb, hstart, hnop, decode_encode (i := .start d) hd,
    decode_encode (i := .ctrlNop 0) rfl]
  rfl

/-- Settles O25, which `step_of_busy` says of the next state. -/
theorem busyKeepsTheConfiguration : Obligations.BusyKeepsTheConfiguration := by
  intro s t hr hb h
  obtain ⟨u, hstep, _, hconfig⟩ := step_of_busy hb hr
  obtain rfl := Host.Outcome.next.inj (hstep.symm.trans h)
  exact hconfig

/-! What a busy SWPD shows. -/

/-- Settles O44: by the facts a busy SWPD has no result and no frame, and by the record no error stands without a
result. -/
theorem busyShowsNoOutcome : Obligations.BusyShowsNoOutcome := by
  intro s hf ho hb
  obtain ⟨hdone, hvalid, hframe, hnone, _⟩ := (reachableFacts_busy_iff hb).mp hf
  obtain ⟨_, hbit, hstate, hdur⟩ := (outcomeRecord_none_iff hnone).mp ho
  obtain ⟨_, hdoneBit, hvalidBit, _⟩ := statusValue_flags s
  obtain ⟨_, _, hresult, _⟩ := statusValue_fields s
  obtain ⟨hdata, hcheck⟩ := dataValue_of_noFrame hframe
  refine ⟨?_, hdoneBit.trans hdone, hvalidBit.trans hvalid, hdata, hcheck, errInfoValue_of_clear hbit hstate, hdur⟩
  rw [hresult, hnone]
  rfl

/-! A timestamp that stops. -/

theorem dwell_of_lt {bound : Word} {next : FsmState} {s : State} (ht : elapsed s < bound) : dwell bound next s = .hold :=
  if_neg (BitVec.not_le.mpr ht)

theorem waitFor_of_lt {level : Bool} {next : FsmState} {err : DecodeError} {s : State} (hl : s.line ≠ level)
    (ht : elapsed s < s.cfgTimeout) : waitFor level next err s = .hold := by
  rw [waitFor, if_neg hl, if_neg (BitVec.not_le.mpr ht)]

/-- The states that wait for the line, each with the level on which the wait goes on (40_decoder.md R129 to R133). -/
def waitLevels : List (FsmState × Bool) :=
  [(.hsWaitLow, true), (.hsWaitHigh, false), (.hsWaitData, true), (.bitWaitHigh, false), (.bitMeasure, true)]

/-- A wait goes on while the awaited level has not come and the time is below the timeout. -/
theorem stateRule_of_wait {w : FsmState × Bool} {s : State} (hw : w ∈ waitLevels) (hs : s.state = w.1)
    (hl : s.line = w.2) (ht : elapsed s < s.cfgTimeout) : stateRule s = .hold := by
  simp only [waitLevels, List.mem_cons, List.not_mem_nil, or_false] at hw
  obtain rfl | rfl | rfl | rfl | rfl := hw
  case inr.inr.inr.inr => exact stateRule_of_high hs hl ht
  all_goals
    rw [stateRule, hs]
    exact waitFor_of_lt (by simp [hl]) ht

theorem state_ne_idle_of_wait {w : FsmState × Bool} (hw : w ∈ waitLevels) : w.1 ≠ .idle := by
  revert w
  decide

/-- While the timestamp stands at `m`, a phase whose rule holds at `m` goes on for any number of edges. -/
theorem runEdges_of_stopped {n : Nat} {s : State} {m : Word} (hb : s.state ≠ .idle) (hn : n ≤ s.inputs.length)
    (hstop : ∀ e ∈ s.inputs.take n, e.rst = false ∧ e.nowUs = m)
    (hh : ∀ t, KeepsCycle s t → SameConfig s t → t.input ∈ s.inputs.take n → elapsed t = m - s.tMark →
      stateRule t = .hold) :
    ∃ t, runEdges n s = .next t ∧ KeepsCycle s t := by
  obtain ⟨t, hrun, hk, _⟩ := runEdges_of_hold hb (List.take_append_drop n s.inputs).symm (fun e he => (hstop e he).1) <| by
    intro t hk hc he
    have htime : elapsed t = m - s.tMark := by rw [elapsed, State.now, (hstop _ he).2, hk.tMark]
    exact hh t hk hc he htime
  rw [List.length_take_of_le hn] at hrun
  exact ⟨t, hrun, hk⟩

/-- Settles O50: below its bound the rule of each busy state holds, and `runEdges_of_stopped` repeats it. -/
theorem stoppedTimestampHoldsThePhase : Obligations.StoppedTimestampHoldsThePhase := by
  refine fun n s m hn hstop => ⟨fun hs hlt => ?_, fun hs hlt => ?_, fun w hw hs hline hlt => ?_⟩
  · obtain ⟨t, hrun, hk⟩ := runEdges_of_stopped (by simp [hs]) hn hstop <| by
      intro t hk ⟨_, hbound, _⟩ _ htime
      rw [stateRule, hk.state, hs]
      exact dwell_of_lt (by rwa [htime, hbound])
    have hlow : t.state = .startLow := hk.state.trans hs
    exact ⟨t, hrun, hlow, (lineOe_iff t).mpr hlow, hk.tMark⟩
  · obtain ⟨t, hrun, hk⟩ := runEdges_of_stopped (by simp [hs]) hn hstop <| by
      intro t hk ⟨_, _, hbound, _⟩ _ htime
      rw [stateRule, hk.state, hs]
      exact dwell_of_lt (by rwa [htime, hbound])
    exact ⟨t, hrun, hk.state.trans hs, hk.tMark⟩
  · obtain ⟨t, hrun, hk⟩ := runEdges_of_stopped (hs ▸ state_ne_idle_of_wait hw) hn hstop <| by
      intro t hk ⟨hbound, _⟩ he htime
      exact stateRule_of_wait hw (hk.state.trans hs) (hline _ he) (by rwa [htime, hbound])
    exact ⟨t, hrun, hk.state.trans hs, hk.tMark, hk.bitCnt⟩

end Sys2Proof.Machine
end
